-- ==== Sys2Proof/Word.lean ====
section
/-! DEFINITION. The two bit-vector types of the machine (spec 00_scope.md R8): the 256-bit word and the 8-bit byte. Signed and unsigned
readings are core Lean's: `uval` is `BitVec.toNat`, `sval` is `BitVec.toInt`, `W(n)` is `BitVec.ofNat 256 n` (`BitVec.ofInt 256 n` for an
integer that may be negative). -/

namespace Sys2Proof

/-- A word is a vector of 256 bits, bit 0 the least significant (R8). -/
abbrev Word := BitVec 256

/-- A byte of memory, code or input, and an opcode, is 8 bits (R6 `OPCODE_BITS`, R50). -/
abbrev Byte := BitVec 8

end Sys2Proof
end

