-- ==== Sys2Proof/Machine/Flags.lean ====
section
/-! DEFINITION. The machine has no flags (10_state.md R31): what plays their part is the word 1 or 0 a comparison pushes, and the test of a whole
word against zero that JUMPI makes. -/

namespace Sys2Proof.Machine

/-- The result word of a comparison: 1 for true, 0 for false (42_bitwise.md R140). -/
def truth (b : Bool) : Word := if b then 1 else 0

/-- The condition of JUMPI: true when any of the 256 bits is set (45_control.md R264). -/
def isTrue (w : Word) : Bool := w != 0

end Sys2Proof.Machine
end

