-- ==== Sys2Proof/Machine/Alu.lean ====
section
/-! DEFINITION. The 256-bit ALU as functions on words (41_arithmetic.md, 42_bitwise.md). The first argument is the first word popped (R120,
R140; log 2). The ALU semantics of division by zero, SIGNEXTEND, BYTE and shift saturation are those the spec states (log 24). -/

namespace Sys2Proof.Machine.Alu

/-! ### Arithmetic -/

/-- R121: the sum modulo 2^256. -/
def add (a b : Word) : Word := a + b

/-- R122: the low 256 bits of the product. -/
def mul (a b : Word) : Word := a * b

/-- R123: `a - b` modulo 2^256. -/
def sub (a b : Word) : Word := a - b

/-- R124: unsigned division; by zero it is 0. -/
def div (a b : Word) : Word := if b = 0 then 0 else BitVec.ofNat 256 (a.toNat / b.toNat)

/-- R125: signed division truncating toward zero; by zero it is 0; the one quotient that does not fit wraps. -/
def sdiv (a b : Word) : Word := if b = 0 then 0 else BitVec.ofInt 256 (Int.tdiv a.toInt b.toInt)

/-- R126: unsigned remainder; modulo zero it is 0. -/
def mod (a b : Word) : Word := if b = 0 then 0 else BitVec.ofNat 256 (a.toNat % b.toNat)

/-- R127: the remainder of the magnitudes with the sign of the dividend; modulo zero it is 0. -/
def smod (a b : Word) : Word :=
  if b = 0 then 0
  else if 0 ≤ a.toInt then BitVec.ofInt 256 (a.toInt.natAbs % b.toInt.natAbs : Nat)
  else BitVec.ofInt 256 (-((a.toInt.natAbs % b.toInt.natAbs : Nat) : Int))

/-- R128: the exact sum modulo `n`; modulo zero it is 0. -/
def addmod (a b n : Word) : Word := if n = 0 then 0 else BitVec.ofNat 256 ((a.toNat + b.toNat) % n.toNat)

/-- R129: the exact product modulo `n`; modulo zero it is 0. -/
def mulmod (a b n : Word) : Word := if n = 0 then 0 else BitVec.ofNat 256 ((a.toNat * b.toNat) % n.toNat)

/-- Repeated squaring over the low `fuel` bits of the exponent `e`: `acc * p^e` modulo 2^256 when `e < 2^fuel` (R130). -/
def expLoop : Nat → Word → Word → Nat → Word
  | 0, acc, _, _ => acc
  | fuel + 1, acc, p, e => expLoop fuel (if e % 2 = 1 then acc * p else acc) (p * p) (e / 2)

/-- R130: `a` to the power `b` modulo 2^256; `0^0 = 1`. -/
def exp (a b : Word) : Word := expLoop 256 1 a b.toNat

/-- R131: replicate bit `t = 8k + 7` of `x` into the bits above it; `x` unchanged when `k ≥ 31`. -/
def signextend (k x : Word) : Word :=
  if 31 ≤ k.toNat then x
  else
    if x.getLsbD (8 * k.toNat + 7) then x ||| BitVec.ofNat 256 (2 ^ 256 - 2 ^ (8 * k.toNat + 8))
    else x &&& BitVec.ofNat 256 (2 ^ (8 * k.toNat + 8) - 1)

/-! ### Comparisons -/

/-- R141: unsigned less than. -/
def lt (a b : Word) : Word := truth (decide (a.toNat < b.toNat))

/-- R142: unsigned greater than. -/
def gt (a b : Word) : Word := truth (decide (a.toNat > b.toNat))

/-- R143: two's-complement less than. -/
def slt (a b : Word) : Word := truth (decide (a.toInt < b.toInt))

/-- R144: two's-complement greater than. -/
def sgt (a b : Word) : Word := truth (decide (a.toInt > b.toInt))

/-- R145: equality of all 256 bits. -/
def eq (a b : Word) : Word := truth (a == b)

/-- R146: 1 if zero, else 0. -/
def iszero (a : Word) : Word := truth (a == 0)

/-! ### Bitwise logic and bytes -/

/-- R147. -/
def and (a b : Word) : Word := a &&& b

/-- R148. -/
def or (a b : Word) : Word := a ||| b

/-- R149. -/
def xor (a b : Word) : Word := a ^^^ b

/-- R150: bitwise complement. -/
def not (a : Word) : Word := ~~~a

/-- R151: the byte of index `i` counting from the most significant, zero-extended; 0 when `i ≥ 32`. -/
def byte (i x : Word) : Word :=
  if 32 ≤ i.toNat then 0 else (x.extractLsb' (248 - 8 * i.toNat) 8).setWidth 256

/-! ### Shifts -/

/-- R152: shift `x` left by `s`; 0 when `s ≥ 256`. -/
def shl (s x : Word) : Word := if 256 ≤ s.toNat then 0 else x <<< s.toNat

/-- R153: shift `x` right by `s`, zeros entering at the top; 0 when `s ≥ 256`. -/
def shr (s x : Word) : Word := if 256 ≤ s.toNat then 0 else x >>> s.toNat

/-- R154: arithmetic shift right; when `s ≥ 256`, all bits are the sign bit. -/
def sar (s x : Word) : Word :=
  if 256 ≤ s.toNat then (if x.msb then BitVec.allOnes 256 else 0) else x.sshiftRight s.toNat

end Sys2Proof.Machine.Alu
end

