-- ==== Sys2Proof/Config.lean ====
section
/-! DEFINITION. The parameters of the implementation: those the spec fixes (00_scope.md R6) as constants, those it leaves open (R7) as the
fields of `Config`, which a State carries and no step writes. HOST_TRAP (R7, decision D14) is the list of host answers in State (log 12). -/

namespace Sys2Proof

/-- `STACK_LIMIT`: maximum stack depth (R6). -/
def stackLimit : Nat := 1024

/-- `MEM_GRANULE`: memory grows only in multiples of this many bytes (R6). -/
def memGranule : Nat := 32

/-- `PUSH_MAX`: the largest immediate in bytes (R6). -/
def pushMax : Nat := 32

/-- `OVERSIZE_ERROR`: which error an over-limit access reports (R7, D6). -/
inductive OversizeError where
  | invalidRange
  | other
  deriving DecidableEq, Repr

/-- `OPMAP`: the numbering of the instructions (R7, D1), as plain data: how it differs from the table of 30_encoding.md R86 and R87, written as
exchanges of two byte values, the first made first. The empty list is the table itself, the default. Every list is an injective map from mnemonics
to bytes, and every injective map is some list (log 26). `opByte` and `tableByte` (Sys2Proof/Decode.lean) read it. -/
abbrev OpMap := List (Byte × Byte)

/-- The open parameters of R7. They are fixed for the machine: a statement about every state is a statement about every value of them. -/
structure Config where
  /-- `OPMAP`: the opcode numbering (D1). -/
  opmap : OpMap
  /-- `MEM_LIMIT`: the largest memory length in bytes (D6). -/
  memLimit : Nat
  /-- `OVERSIZE_ERROR` (D6). -/
  oversizeError : OversizeError
  /-- `MAX_CODE_LEN`: the largest code length in bytes (D18). -/
  maxCodeLen : Nat
  /-- `MAX_INPUT_LEN`: the largest call-input length in bytes (D18). -/
  maxInputLen : Nat
  /-- `PC_BITS`: the width of the position register (D8). -/
  pcBits : Nat
  deriving DecidableEq, Repr

/-- The constraints R7 puts on the parameters. Every `opmap` is injective, so OPMAP needs none. -/
abbrev Config.wf (c : Config) : Prop :=
  c.memLimit % 32 = 0 ∧ 32 ≤ c.memLimit ∧ c.memLimit < 2 ^ 256 ∧
  c.pcBits ≤ 256 ∧ c.maxCodeLen + 32 < 2 ^ c.pcBits ∧ c.maxInputLen < 2 ^ 256

end Sys2Proof
end

