-- ==== Sys2Proof/Machine/Bytes.lean ====
section
/-! DEFINITION. Words as byte sequences, big-endian (00_scope.md R9, 20_memory.md R52): the byte-order helpers every other file uses. Byte
order is decided here and nowhere else. -/

namespace Sys2Proof.Machine

/-- The low `k` bytes of a word, most significant first. -/
def beBytes : Nat → Word → List Byte
  | 0, _ => []
  | k + 1, w => w.extractLsb' (8 * k) 8 :: beBytes k w

/-- `bytes_be(w)`: the canonical 32-byte big-endian encoding of a word (R9). -/
def bytesBE (w : Word) : List Byte := beBytes 32 w

/-- `be(b_0 … b_{n-1})` with an accumulator for the bytes already read. -/
def beNatFrom : Nat → List Byte → Nat
  | acc, [] => acc
  | acc, b :: bs => beNatFrom (acc * 256 + b.toNat) bs

/-- `be(s)`: the number a byte sequence denotes, most significant byte first; 0 for the empty sequence (R9). -/
def beNat (bs : List Byte) : Nat := beNatFrom 0 bs

/-- `W(be(s))`: the word a byte sequence denotes (R52). -/
def beWord (bs : List Byte) : Word := BitVec.ofNat 256 (beNat bs)

/-- `n` bytes of a read-only buffer from offset `off`, zero-padded past its end (R60, R61). The sum `off + j` is exact (R63). -/
def bufferRead (buf : List Byte) : Nat → Nat → List Byte
  | _, 0 => []
  | off, n + 1 => buf.getD off 0 :: bufferRead buf (off + 1) n

end Sys2Proof.Machine
end

