-- ==== Sys2Proof/Syntax.lean ====
section
/-! DEFINITION. The instructions: one constructor per row of spec/opcode_table.json, in the table's order (30_encoding.md R85 to R87). The
only operand field an instruction has is the immediate of PUSH-k (R84), held as the zero-extended word the instruction pushes (R83); every
other operand comes from the stack. A byte value the core does not handle is the constructor `trap0xNN` of that byte (R87). -/

namespace Sys2Proof

/-- An instruction of CORE (R85): the 107 handled opcodes of R86 and the 149 trap bytes of R87. -/
inductive Instr where
  | stop
  | add
  | mul
  | sub
  | div
  | sdiv
  | mod
  | smod
  | addmod
  | mulmod
  | exp
  | signextend
  | trap0x0C
  | trap0x0D
  | trap0x0E
  | trap0x0F
  | lt
  | gt
  | slt
  | sgt
  | eq
  | iszero
  | and
  | or
  | xor
  | not
  | byte
  | shl
  | shr
  | sar
  | trap0x1E
  | trap0x1F
  | trap0x20
  | trap0x21
  | trap0x22
  | trap0x23
  | trap0x24
  | trap0x25
  | trap0x26
  | trap0x27
  | trap0x28
  | trap0x29
  | trap0x2A
  | trap0x2B
  | trap0x2C
  | trap0x2D
  | trap0x2E
  | trap0x2F
  | trap0x30
  | trap0x31
  | trap0x32
  | trap0x33
  | trap0x34
  | calldataload
  | calldatasize
  | calldatacopy
  | codesize
  | codecopy
  | trap0x3A
  | trap0x3B
  | trap0x3C
  | trap0x3D
  | trap0x3E
  | trap0x3F
  | trap0x40
  | trap0x41
  | trap0x42
  | trap0x43
  | trap0x44
  | trap0x45
  | trap0x46
  | trap0x47
  | trap0x48
  | trap0x49
  | trap0x4A
  | trap0x4B
  | trap0x4C
  | trap0x4D
  | trap0x4E
  | trap0x4F
  | pop
  | mload
  | mstore
  | mstore8
  | trap0x54
  | trap0x55
  | jump
  | jumpi
  | pc
  | msize
  | trap0x5A
  | jumpdest
  | trap0x5C
  | trap0x5D
  | trap0x5E
  | trap0x5F
  | push1 (imm : Word)
  | push2 (imm : Word)
  | push3 (imm : Word)
  | push4 (imm : Word)
  | push5 (imm : Word)
  | push6 (imm : Word)
  | push7 (imm : Word)
  | push8 (imm : Word)
  | push9 (imm : Word)
  | push10 (imm : Word)
  | push11 (imm : Word)
  | push12 (imm : Word)
  | push13 (imm : Word)
  | push14 (imm : Word)
  | push15 (imm : Word)
  | push16 (imm : Word)
  | push17 (imm : Word)
  | push18 (imm : Word)
  | push19 (imm : Word)
  | push20 (imm : Word)
  | push21 (imm : Word)
  | push22 (imm : Word)
  | push23 (imm : Word)
  | push24 (imm : Word)
  | push25 (imm : Word)
  | push26 (imm : Word)
  | push27 (imm : Word)
  | push28 (imm : Word)
  | push29 (imm : Word)
  | push30 (imm : Word)
  | push31 (imm : Word)
  | push32 (imm : Word)
  | dup1
  | dup2
  | dup3
  | dup4
  | dup5
  | dup6
  | dup7
  | dup8
  | dup9
  | dup10
  | dup11
  | dup12
  | dup13
  | dup14
  | dup15
  | dup16
  | swap1
  | swap2
  | swap3
  | swap4
  | swap5
  | swap6
  | swap7
  | swap8
  | swap9
  | swap10
  | swap11
  | swap12
  | swap13
  | swap14
  | swap15
  | swap16
  | trap0xA0
  | trap0xA1
  | trap0xA2
  | trap0xA3
  | trap0xA4
  | trap0xA5
  | trap0xA6
  | trap0xA7
  | trap0xA8
  | trap0xA9
  | trap0xAA
  | trap0xAB
  | trap0xAC
  | trap0xAD
  | trap0xAE
  | trap0xAF
  | trap0xB0
  | trap0xB1
  | trap0xB2
  | trap0xB3
  | trap0xB4
  | trap0xB5
  | trap0xB6
  | trap0xB7
  | trap0xB8
  | trap0xB9
  | trap0xBA
  | trap0xBB
  | trap0xBC
  | trap0xBD
  | trap0xBE
  | trap0xBF
  | trap0xC0
  | trap0xC1
  | trap0xC2
  | trap0xC3
  | trap0xC4
  | trap0xC5
  | trap0xC6
  | trap0xC7
  | trap0xC8
  | trap0xC9
  | trap0xCA
  | trap0xCB
  | trap0xCC
  | trap0xCD
  | trap0xCE
  | trap0xCF
  | trap0xD0
  | trap0xD1
  | trap0xD2
  | trap0xD3
  | trap0xD4
  | trap0xD5
  | trap0xD6
  | trap0xD7
  | trap0xD8
  | trap0xD9
  | trap0xDA
  | trap0xDB
  | trap0xDC
  | trap0xDD
  | trap0xDE
  | trap0xDF
  | trap0xE0
  | trap0xE1
  | trap0xE2
  | trap0xE3
  | trap0xE4
  | trap0xE5
  | trap0xE6
  | trap0xE7
  | trap0xE8
  | trap0xE9
  | trap0xEA
  | trap0xEB
  | trap0xEC
  | trap0xED
  | trap0xEE
  | trap0xEF
  | trap0xF0
  | trap0xF1
  | trap0xF2
  | return_
  | trap0xF4
  | trap0xF5
  | trap0xF6
  | trap0xF7
  | trap0xF8
  | trap0xF9
  | trap0xFA
  | trap0xFB
  | trap0xFC
  | revert
  | invalid
  | trap0xFF
  deriving DecidableEq, Repr

end Sys2Proof
end

