-- ==== Sys2Proof/WellFormed.lean ====
section
/-! DEFINITION. Which terms of `Instr` are instructions: the immediate of PUSH-k is a number below 2^(8k) (30_encoding.md R83). No other
constructor has a field, so no other check exists (R84). -/

namespace Sys2Proof

/-- The check of one immediate: it fits the `k` immediate bytes of PUSH-k (R80, R83). -/
def immFits (k : Nat) (imm : Word) : Bool := imm.toNat < 2 ^ (8 * k)

/-- An instruction is well formed when its immediate, if it has one, fits its encoding. -/
def Instr.wellFormed (i : Instr) : Bool :=
  match i with
  | .stop => true
  | .add => true
  | .mul => true
  | .sub => true
  | .div => true
  | .sdiv => true
  | .mod => true
  | .smod => true
  | .addmod => true
  | .mulmod => true
  | .exp => true
  | .signextend => true
  | .trap0x0C => true
  | .trap0x0D => true
  | .trap0x0E => true
  | .trap0x0F => true
  | .lt => true
  | .gt => true
  | .slt => true
  | .sgt => true
  | .eq => true
  | .iszero => true
  | .and => true
  | .or => true
  | .xor => true
  | .not => true
  | .byte => true
  | .shl => true
  | .shr => true
  | .sar => true
  | .trap0x1E => true
  | .trap0x1F => true
  | .trap0x20 => true
  | .trap0x21 => true
  | .trap0x22 => true
  | .trap0x23 => true
  | .trap0x24 => true
  | .trap0x25 => true
  | .trap0x26 => true
  | .trap0x27 => true
  | .trap0x28 => true
  | .trap0x29 => true
  | .trap0x2A => true
  | .trap0x2B => true
  | .trap0x2C => true
  | .trap0x2D => true
  | .trap0x2E => true
  | .trap0x2F => true
  | .trap0x30 => true
  | .trap0x31 => true
  | .trap0x32 => true
  | .trap0x33 => true
  | .trap0x34 => true
  | .calldataload => true
  | .calldatasize => true
  | .calldatacopy => true
  | .codesize => true
  | .codecopy => true
  | .trap0x3A => true
  | .trap0x3B => true
  | .trap0x3C => true
  | .trap0x3D => true
  | .trap0x3E => true
  | .trap0x3F => true
  | .trap0x40 => true
  | .trap0x41 => true
  | .trap0x42 => true
  | .trap0x43 => true
  | .trap0x44 => true
  | .trap0x45 => true
  | .trap0x46 => true
  | .trap0x47 => true
  | .trap0x48 => true
  | .trap0x49 => true
  | .trap0x4A => true
  | .trap0x4B => true
  | .trap0x4C => true
  | .trap0x4D => true
  | .trap0x4E => true
  | .trap0x4F => true
  | .pop => true
  | .mload => true
  | .mstore => true
  | .mstore8 => true
  | .trap0x54 => true
  | .trap0x55 => true
  | .jump => true
  | .jumpi => true
  | .pc => true
  | .msize => true
  | .trap0x5A => true
  | .jumpdest => true
  | .trap0x5C => true
  | .trap0x5D => true
  | .trap0x5E => true
  | .trap0x5F => true
  | .push1 imm => immFits 1 imm
  | .push2 imm => immFits 2 imm
  | .push3 imm => immFits 3 imm
  | .push4 imm => immFits 4 imm
  | .push5 imm => immFits 5 imm
  | .push6 imm => immFits 6 imm
  | .push7 imm => immFits 7 imm
  | .push8 imm => immFits 8 imm
  | .push9 imm => immFits 9 imm
  | .push10 imm => immFits 10 imm
  | .push11 imm => immFits 11 imm
  | .push12 imm => immFits 12 imm
  | .push13 imm => immFits 13 imm
  | .push14 imm => immFits 14 imm
  | .push15 imm => immFits 15 imm
  | .push16 imm => immFits 16 imm
  | .push17 imm => immFits 17 imm
  | .push18 imm => immFits 18 imm
  | .push19 imm => immFits 19 imm
  | .push20 imm => immFits 20 imm
  | .push21 imm => immFits 21 imm
  | .push22 imm => immFits 22 imm
  | .push23 imm => immFits 23 imm
  | .push24 imm => immFits 24 imm
  | .push25 imm => immFits 25 imm
  | .push26 imm => immFits 26 imm
  | .push27 imm => immFits 27 imm
  | .push28 imm => immFits 28 imm
  | .push29 imm => immFits 29 imm
  | .push30 imm => immFits 30 imm
  | .push31 imm => immFits 31 imm
  | .push32 imm => immFits 32 imm
  | .dup1 => true
  | .dup2 => true
  | .dup3 => true
  | .dup4 => true
  | .dup5 => true
  | .dup6 => true
  | .dup7 => true
  | .dup8 => true
  | .dup9 => true
  | .dup10 => true
  | .dup11 => true
  | .dup12 => true
  | .dup13 => true
  | .dup14 => true
  | .dup15 => true
  | .dup16 => true
  | .swap1 => true
  | .swap2 => true
  | .swap3 => true
  | .swap4 => true
  | .swap5 => true
  | .swap6 => true
  | .swap7 => true
  | .swap8 => true
  | .swap9 => true
  | .swap10 => true
  | .swap11 => true
  | .swap12 => true
  | .swap13 => true
  | .swap14 => true
  | .swap15 => true
  | .swap16 => true
  | .trap0xA0 => true
  | .trap0xA1 => true
  | .trap0xA2 => true
  | .trap0xA3 => true
  | .trap0xA4 => true
  | .trap0xA5 => true
  | .trap0xA6 => true
  | .trap0xA7 => true
  | .trap0xA8 => true
  | .trap0xA9 => true
  | .trap0xAA => true
  | .trap0xAB => true
  | .trap0xAC => true
  | .trap0xAD => true
  | .trap0xAE => true
  | .trap0xAF => true
  | .trap0xB0 => true
  | .trap0xB1 => true
  | .trap0xB2 => true
  | .trap0xB3 => true
  | .trap0xB4 => true
  | .trap0xB5 => true
  | .trap0xB6 => true
  | .trap0xB7 => true
  | .trap0xB8 => true
  | .trap0xB9 => true
  | .trap0xBA => true
  | .trap0xBB => true
  | .trap0xBC => true
  | .trap0xBD => true
  | .trap0xBE => true
  | .trap0xBF => true
  | .trap0xC0 => true
  | .trap0xC1 => true
  | .trap0xC2 => true
  | .trap0xC3 => true
  | .trap0xC4 => true
  | .trap0xC5 => true
  | .trap0xC6 => true
  | .trap0xC7 => true
  | .trap0xC8 => true
  | .trap0xC9 => true
  | .trap0xCA => true
  | .trap0xCB => true
  | .trap0xCC => true
  | .trap0xCD => true
  | .trap0xCE => true
  | .trap0xCF => true
  | .trap0xD0 => true
  | .trap0xD1 => true
  | .trap0xD2 => true
  | .trap0xD3 => true
  | .trap0xD4 => true
  | .trap0xD5 => true
  | .trap0xD6 => true
  | .trap0xD7 => true
  | .trap0xD8 => true
  | .trap0xD9 => true
  | .trap0xDA => true
  | .trap0xDB => true
  | .trap0xDC => true
  | .trap0xDD => true
  | .trap0xDE => true
  | .trap0xDF => true
  | .trap0xE0 => true
  | .trap0xE1 => true
  | .trap0xE2 => true
  | .trap0xE3 => true
  | .trap0xE4 => true
  | .trap0xE5 => true
  | .trap0xE6 => true
  | .trap0xE7 => true
  | .trap0xE8 => true
  | .trap0xE9 => true
  | .trap0xEA => true
  | .trap0xEB => true
  | .trap0xEC => true
  | .trap0xED => true
  | .trap0xEE => true
  | .trap0xEF => true
  | .trap0xF0 => true
  | .trap0xF1 => true
  | .trap0xF2 => true
  | .return_ => true
  | .trap0xF4 => true
  | .trap0xF5 => true
  | .trap0xF6 => true
  | .trap0xF7 => true
  | .trap0xF8 => true
  | .trap0xF9 => true
  | .trap0xFA => true
  | .trap0xFB => true
  | .trap0xFC => true
  | .revert => true
  | .invalid => true
  | .trap0xFF => true

end Sys2Proof
end

