-- ==== Sys2Proof/Decode.lean ====
section
/-! DEFINITION. The decoder and, after it, the encoder. `opcodePages` is the table of 30_encoding.md R86 and R87, the default of
the parameter OPMAP (decision D1, log 1); a map `m : OpMap` renumbers its rows (log 26). Everything that depends on a byte value (decoding, the
encoder, the jump-target validator, the byte a trap hands over) takes the map. Decoding is total on the 256 byte values (R85); a list of bytes is
rejected, by name, only when it is too short to hold its instruction. -/

namespace Sys2Proof

/-- One row of the opcode table: the byte, how many immediate bytes follow it (R80), and the instruction it stands for. -/
structure OpRow where
  opcode : Byte
  immBytes : Nat
  make : Word → Instr

/-- The opcode table, bytes 0x00 to 0x0F (R86, R87). -/
def opcodeRows0 : List OpRow := [
  ⟨0x00, 0, fun _ => .stop⟩,
  ⟨0x01, 0, fun _ => .add⟩,
  ⟨0x02, 0, fun _ => .mul⟩,
  ⟨0x03, 0, fun _ => .sub⟩,
  ⟨0x04, 0, fun _ => .div⟩,
  ⟨0x05, 0, fun _ => .sdiv⟩,
  ⟨0x06, 0, fun _ => .mod⟩,
  ⟨0x07, 0, fun _ => .smod⟩,
  ⟨0x08, 0, fun _ => .addmod⟩,
  ⟨0x09, 0, fun _ => .mulmod⟩,
  ⟨0x0A, 0, fun _ => .exp⟩,
  ⟨0x0B, 0, fun _ => .signextend⟩,
  ⟨0x0C, 0, fun _ => .trap0x0C⟩,
  ⟨0x0D, 0, fun _ => .trap0x0D⟩,
  ⟨0x0E, 0, fun _ => .trap0x0E⟩,
  ⟨0x0F, 0, fun _ => .trap0x0F⟩]

/-- The opcode table, bytes 0x10 to 0x1F (R86, R87). -/
def opcodeRows1 : List OpRow := [
  ⟨0x10, 0, fun _ => .lt⟩,
  ⟨0x11, 0, fun _ => .gt⟩,
  ⟨0x12, 0, fun _ => .slt⟩,
  ⟨0x13, 0, fun _ => .sgt⟩,
  ⟨0x14, 0, fun _ => .eq⟩,
  ⟨0x15, 0, fun _ => .iszero⟩,
  ⟨0x16, 0, fun _ => .and⟩,
  ⟨0x17, 0, fun _ => .or⟩,
  ⟨0x18, 0, fun _ => .xor⟩,
  ⟨0x19, 0, fun _ => .not⟩,
  ⟨0x1A, 0, fun _ => .byte⟩,
  ⟨0x1B, 0, fun _ => .shl⟩,
  ⟨0x1C, 0, fun _ => .shr⟩,
  ⟨0x1D, 0, fun _ => .sar⟩,
  ⟨0x1E, 0, fun _ => .trap0x1E⟩,
  ⟨0x1F, 0, fun _ => .trap0x1F⟩]

/-- The opcode table, bytes 0x20 to 0x2F (R86, R87). -/
def opcodeRows2 : List OpRow := [
  ⟨0x20, 0, fun _ => .trap0x20⟩,
  ⟨0x21, 0, fun _ => .trap0x21⟩,
  ⟨0x22, 0, fun _ => .trap0x22⟩,
  ⟨0x23, 0, fun _ => .trap0x23⟩,
  ⟨0x24, 0, fun _ => .trap0x24⟩,
  ⟨0x25, 0, fun _ => .trap0x25⟩,
  ⟨0x26, 0, fun _ => .trap0x26⟩,
  ⟨0x27, 0, fun _ => .trap0x27⟩,
  ⟨0x28, 0, fun _ => .trap0x28⟩,
  ⟨0x29, 0, fun _ => .trap0x29⟩,
  ⟨0x2A, 0, fun _ => .trap0x2A⟩,
  ⟨0x2B, 0, fun _ => .trap0x2B⟩,
  ⟨0x2C, 0, fun _ => .trap0x2C⟩,
  ⟨0x2D, 0, fun _ => .trap0x2D⟩,
  ⟨0x2E, 0, fun _ => .trap0x2E⟩,
  ⟨0x2F, 0, fun _ => .trap0x2F⟩]

/-- The opcode table, bytes 0x30 to 0x3F (R86, R87). -/
def opcodeRows3 : List OpRow := [
  ⟨0x30, 0, fun _ => .trap0x30⟩,
  ⟨0x31, 0, fun _ => .trap0x31⟩,
  ⟨0x32, 0, fun _ => .trap0x32⟩,
  ⟨0x33, 0, fun _ => .trap0x33⟩,
  ⟨0x34, 0, fun _ => .trap0x34⟩,
  ⟨0x35, 0, fun _ => .calldataload⟩,
  ⟨0x36, 0, fun _ => .calldatasize⟩,
  ⟨0x37, 0, fun _ => .calldatacopy⟩,
  ⟨0x38, 0, fun _ => .codesize⟩,
  ⟨0x39, 0, fun _ => .codecopy⟩,
  ⟨0x3A, 0, fun _ => .trap0x3A⟩,
  ⟨0x3B, 0, fun _ => .trap0x3B⟩,
  ⟨0x3C, 0, fun _ => .trap0x3C⟩,
  ⟨0x3D, 0, fun _ => .trap0x3D⟩,
  ⟨0x3E, 0, fun _ => .trap0x3E⟩,
  ⟨0x3F, 0, fun _ => .trap0x3F⟩]

/-- The opcode table, bytes 0x40 to 0x4F (R86, R87). -/
def opcodeRows4 : List OpRow := [
  ⟨0x40, 0, fun _ => .trap0x40⟩,
  ⟨0x41, 0, fun _ => .trap0x41⟩,
  ⟨0x42, 0, fun _ => .trap0x42⟩,
  ⟨0x43, 0, fun _ => .trap0x43⟩,
  ⟨0x44, 0, fun _ => .trap0x44⟩,
  ⟨0x45, 0, fun _ => .trap0x45⟩,
  ⟨0x46, 0, fun _ => .trap0x46⟩,
  ⟨0x47, 0, fun _ => .trap0x47⟩,
  ⟨0x48, 0, fun _ => .trap0x48⟩,
  ⟨0x49, 0, fun _ => .trap0x49⟩,
  ⟨0x4A, 0, fun _ => .trap0x4A⟩,
  ⟨0x4B, 0, fun _ => .trap0x4B⟩,
  ⟨0x4C, 0, fun _ => .trap0x4C⟩,
  ⟨0x4D, 0, fun _ => .trap0x4D⟩,
  ⟨0x4E, 0, fun _ => .trap0x4E⟩,
  ⟨0x4F, 0, fun _ => .trap0x4F⟩]

/-- The opcode table, bytes 0x50 to 0x5F (R86, R87). -/
def opcodeRows5 : List OpRow := [
  ⟨0x50, 0, fun _ => .pop⟩,
  ⟨0x51, 0, fun _ => .mload⟩,
  ⟨0x52, 0, fun _ => .mstore⟩,
  ⟨0x53, 0, fun _ => .mstore8⟩,
  ⟨0x54, 0, fun _ => .trap0x54⟩,
  ⟨0x55, 0, fun _ => .trap0x55⟩,
  ⟨0x56, 0, fun _ => .jump⟩,
  ⟨0x57, 0, fun _ => .jumpi⟩,
  ⟨0x58, 0, fun _ => .pc⟩,
  ⟨0x59, 0, fun _ => .msize⟩,
  ⟨0x5A, 0, fun _ => .trap0x5A⟩,
  ⟨0x5B, 0, fun _ => .jumpdest⟩,
  ⟨0x5C, 0, fun _ => .trap0x5C⟩,
  ⟨0x5D, 0, fun _ => .trap0x5D⟩,
  ⟨0x5E, 0, fun _ => .trap0x5E⟩,
  ⟨0x5F, 0, fun _ => .trap0x5F⟩]

/-- The opcode table, bytes 0x60 to 0x6F (R86, R87). -/
def opcodeRows6 : List OpRow := [
  ⟨0x60, 1, .push1⟩,
  ⟨0x61, 2, .push2⟩,
  ⟨0x62, 3, .push3⟩,
  ⟨0x63, 4, .push4⟩,
  ⟨0x64, 5, .push5⟩,
  ⟨0x65, 6, .push6⟩,
  ⟨0x66, 7, .push7⟩,
  ⟨0x67, 8, .push8⟩,
  ⟨0x68, 9, .push9⟩,
  ⟨0x69, 10, .push10⟩,
  ⟨0x6A, 11, .push11⟩,
  ⟨0x6B, 12, .push12⟩,
  ⟨0x6C, 13, .push13⟩,
  ⟨0x6D, 14, .push14⟩,
  ⟨0x6E, 15, .push15⟩,
  ⟨0x6F, 16, .push16⟩]

/-- The opcode table, bytes 0x70 to 0x7F (R86, R87). -/
def opcodeRows7 : List OpRow := [
  ⟨0x70, 17, .push17⟩,
  ⟨0x71, 18, .push18⟩,
  ⟨0x72, 19, .push19⟩,
  ⟨0x73, 20, .push20⟩,
  ⟨0x74, 21, .push21⟩,
  ⟨0x75, 22, .push22⟩,
  ⟨0x76, 23, .push23⟩,
  ⟨0x77, 24, .push24⟩,
  ⟨0x78, 25, .push25⟩,
  ⟨0x79, 26, .push26⟩,
  ⟨0x7A, 27, .push27⟩,
  ⟨0x7B, 28, .push28⟩,
  ⟨0x7C, 29, .push29⟩,
  ⟨0x7D, 30, .push30⟩,
  ⟨0x7E, 31, .push31⟩,
  ⟨0x7F, 32, .push32⟩]

/-- The opcode table, bytes 0x80 to 0x8F (R86, R87). -/
def opcodeRows8 : List OpRow := [
  ⟨0x80, 0, fun _ => .dup1⟩,
  ⟨0x81, 0, fun _ => .dup2⟩,
  ⟨0x82, 0, fun _ => .dup3⟩,
  ⟨0x83, 0, fun _ => .dup4⟩,
  ⟨0x84, 0, fun _ => .dup5⟩,
  ⟨0x85, 0, fun _ => .dup6⟩,
  ⟨0x86, 0, fun _ => .dup7⟩,
  ⟨0x87, 0, fun _ => .dup8⟩,
  ⟨0x88, 0, fun _ => .dup9⟩,
  ⟨0x89, 0, fun _ => .dup10⟩,
  ⟨0x8A, 0, fun _ => .dup11⟩,
  ⟨0x8B, 0, fun _ => .dup12⟩,
  ⟨0x8C, 0, fun _ => .dup13⟩,
  ⟨0x8D, 0, fun _ => .dup14⟩,
  ⟨0x8E, 0, fun _ => .dup15⟩,
  ⟨0x8F, 0, fun _ => .dup16⟩]

/-- The opcode table, bytes 0x90 to 0x9F (R86, R87). -/
def opcodeRows9 : List OpRow := [
  ⟨0x90, 0, fun _ => .swap1⟩,
  ⟨0x91, 0, fun _ => .swap2⟩,
  ⟨0x92, 0, fun _ => .swap3⟩,
  ⟨0x93, 0, fun _ => .swap4⟩,
  ⟨0x94, 0, fun _ => .swap5⟩,
  ⟨0x95, 0, fun _ => .swap6⟩,
  ⟨0x96, 0, fun _ => .swap7⟩,
  ⟨0x97, 0, fun _ => .swap8⟩,
  ⟨0x98, 0, fun _ => .swap9⟩,
  ⟨0x99, 0, fun _ => .swap10⟩,
  ⟨0x9A, 0, fun _ => .swap11⟩,
  ⟨0x9B, 0, fun _ => .swap12⟩,
  ⟨0x9C, 0, fun _ => .swap13⟩,
  ⟨0x9D, 0, fun _ => .swap14⟩,
  ⟨0x9E, 0, fun _ => .swap15⟩,
  ⟨0x9F, 0, fun _ => .swap16⟩]

/-- The opcode table, bytes 0xA0 to 0xAF (R86, R87). -/
def opcodeRowsA : List OpRow := [
  ⟨0xA0, 0, fun _ => .trap0xA0⟩,
  ⟨0xA1, 0, fun _ => .trap0xA1⟩,
  ⟨0xA2, 0, fun _ => .trap0xA2⟩,
  ⟨0xA3, 0, fun _ => .trap0xA3⟩,
  ⟨0xA4, 0, fun _ => .trap0xA4⟩,
  ⟨0xA5, 0, fun _ => .trap0xA5⟩,
  ⟨0xA6, 0, fun _ => .trap0xA6⟩,
  ⟨0xA7, 0, fun _ => .trap0xA7⟩,
  ⟨0xA8, 0, fun _ => .trap0xA8⟩,
  ⟨0xA9, 0, fun _ => .trap0xA9⟩,
  ⟨0xAA, 0, fun _ => .trap0xAA⟩,
  ⟨0xAB, 0, fun _ => .trap0xAB⟩,
  ⟨0xAC, 0, fun _ => .trap0xAC⟩,
  ⟨0xAD, 0, fun _ => .trap0xAD⟩,
  ⟨0xAE, 0, fun _ => .trap0xAE⟩,
  ⟨0xAF, 0, fun _ => .trap0xAF⟩]

/-- The opcode table, bytes 0xB0 to 0xBF (R86, R87). -/
def opcodeRowsB : List OpRow := [
  ⟨0xB0, 0, fun _ => .trap0xB0⟩,
  ⟨0xB1, 0, fun _ => .trap0xB1⟩,
  ⟨0xB2, 0, fun _ => .trap0xB2⟩,
  ⟨0xB3, 0, fun _ => .trap0xB3⟩,
  ⟨0xB4, 0, fun _ => .trap0xB4⟩,
  ⟨0xB5, 0, fun _ => .trap0xB5⟩,
  ⟨0xB6, 0, fun _ => .trap0xB6⟩,
  ⟨0xB7, 0, fun _ => .trap0xB7⟩,
  ⟨0xB8, 0, fun _ => .trap0xB8⟩,
  ⟨0xB9, 0, fun _ => .trap0xB9⟩,
  ⟨0xBA, 0, fun _ => .trap0xBA⟩,
  ⟨0xBB, 0, fun _ => .trap0xBB⟩,
  ⟨0xBC, 0, fun _ => .trap0xBC⟩,
  ⟨0xBD, 0, fun _ => .trap0xBD⟩,
  ⟨0xBE, 0, fun _ => .trap0xBE⟩,
  ⟨0xBF, 0, fun _ => .trap0xBF⟩]

/-- The opcode table, bytes 0xC0 to 0xCF (R86, R87). -/
def opcodeRowsC : List OpRow := [
  ⟨0xC0, 0, fun _ => .trap0xC0⟩,
  ⟨0xC1, 0, fun _ => .trap0xC1⟩,
  ⟨0xC2, 0, fun _ => .trap0xC2⟩,
  ⟨0xC3, 0, fun _ => .trap0xC3⟩,
  ⟨0xC4, 0, fun _ => .trap0xC4⟩,
  ⟨0xC5, 0, fun _ => .trap0xC5⟩,
  ⟨0xC6, 0, fun _ => .trap0xC6⟩,
  ⟨0xC7, 0, fun _ => .trap0xC7⟩,
  ⟨0xC8, 0, fun _ => .trap0xC8⟩,
  ⟨0xC9, 0, fun _ => .trap0xC9⟩,
  ⟨0xCA, 0, fun _ => .trap0xCA⟩,
  ⟨0xCB, 0, fun _ => .trap0xCB⟩,
  ⟨0xCC, 0, fun _ => .trap0xCC⟩,
  ⟨0xCD, 0, fun _ => .trap0xCD⟩,
  ⟨0xCE, 0, fun _ => .trap0xCE⟩,
  ⟨0xCF, 0, fun _ => .trap0xCF⟩]

/-- The opcode table, bytes 0xD0 to 0xDF (R86, R87). -/
def opcodeRowsD : List OpRow := [
  ⟨0xD0, 0, fun _ => .trap0xD0⟩,
  ⟨0xD1, 0, fun _ => .trap0xD1⟩,
  ⟨0xD2, 0, fun _ => .trap0xD2⟩,
  ⟨0xD3, 0, fun _ => .trap0xD3⟩,
  ⟨0xD4, 0, fun _ => .trap0xD4⟩,
  ⟨0xD5, 0, fun _ => .trap0xD5⟩,
  ⟨0xD6, 0, fun _ => .trap0xD6⟩,
  ⟨0xD7, 0, fun _ => .trap0xD7⟩,
  ⟨0xD8, 0, fun _ => .trap0xD8⟩,
  ⟨0xD9, 0, fun _ => .trap0xD9⟩,
  ⟨0xDA, 0, fun _ => .trap0xDA⟩,
  ⟨0xDB, 0, fun _ => .trap0xDB⟩,
  ⟨0xDC, 0, fun _ => .trap0xDC⟩,
  ⟨0xDD, 0, fun _ => .trap0xDD⟩,
  ⟨0xDE, 0, fun _ => .trap0xDE⟩,
  ⟨0xDF, 0, fun _ => .trap0xDF⟩]

/-- The opcode table, bytes 0xE0 to 0xEF (R86, R87). -/
def opcodeRowsE : List OpRow := [
  ⟨0xE0, 0, fun _ => .trap0xE0⟩,
  ⟨0xE1, 0, fun _ => .trap0xE1⟩,
  ⟨0xE2, 0, fun _ => .trap0xE2⟩,
  ⟨0xE3, 0, fun _ => .trap0xE3⟩,
  ⟨0xE4, 0, fun _ => .trap0xE4⟩,
  ⟨0xE5, 0, fun _ => .trap0xE5⟩,
  ⟨0xE6, 0, fun _ => .trap0xE6⟩,
  ⟨0xE7, 0, fun _ => .trap0xE7⟩,
  ⟨0xE8, 0, fun _ => .trap0xE8⟩,
  ⟨0xE9, 0, fun _ => .trap0xE9⟩,
  ⟨0xEA, 0, fun _ => .trap0xEA⟩,
  ⟨0xEB, 0, fun _ => .trap0xEB⟩,
  ⟨0xEC, 0, fun _ => .trap0xEC⟩,
  ⟨0xED, 0, fun _ => .trap0xED⟩,
  ⟨0xEE, 0, fun _ => .trap0xEE⟩,
  ⟨0xEF, 0, fun _ => .trap0xEF⟩]

/-- The opcode table, bytes 0xF0 to 0xFF (R86, R87). -/
def opcodeRowsF : List OpRow := [
  ⟨0xF0, 0, fun _ => .trap0xF0⟩,
  ⟨0xF1, 0, fun _ => .trap0xF1⟩,
  ⟨0xF2, 0, fun _ => .trap0xF2⟩,
  ⟨0xF3, 0, fun _ => .return_⟩,
  ⟨0xF4, 0, fun _ => .trap0xF4⟩,
  ⟨0xF5, 0, fun _ => .trap0xF5⟩,
  ⟨0xF6, 0, fun _ => .trap0xF6⟩,
  ⟨0xF7, 0, fun _ => .trap0xF7⟩,
  ⟨0xF8, 0, fun _ => .trap0xF8⟩,
  ⟨0xF9, 0, fun _ => .trap0xF9⟩,
  ⟨0xFA, 0, fun _ => .trap0xFA⟩,
  ⟨0xFB, 0, fun _ => .trap0xFB⟩,
  ⟨0xFC, 0, fun _ => .trap0xFC⟩,
  ⟨0xFD, 0, fun _ => .revert⟩,
  ⟨0xFE, 0, fun _ => .invalid⟩,
  ⟨0xFF, 0, fun _ => .trap0xFF⟩]

/-- The opcode table of R86 and R87: sixteen pages of sixteen rows, one row per byte value, in the order of the byte values. -/
def opcodePages : List (List OpRow) :=
  [opcodeRows0, opcodeRows1, opcodeRows2, opcodeRows3, opcodeRows4, opcodeRows5, opcodeRows6, opcodeRows7,
   opcodeRows8, opcodeRows9, opcodeRowsA, opcodeRowsB, opcodeRowsC, opcodeRowsD, opcodeRowsE, opcodeRowsF]

/-- The high four bits of a byte are a page number. -/
theorem highNibble_lt (op : Byte) : op.toNat / 16 < 16 := by have := op.isLt; omega

/-- Every page of the map has a row for each value of the low four bits (R85). -/
theorem opcodePages_full : ∀ h : Fin 16, (opcodePages[h.val]'h.isLt).length = 16 := by decide

/-- The page of an opcode byte, by its high four bits. -/
def opcodePage (op : Byte) : List OpRow :=
  opcodePages[op.toNat / 16]'(highNibble_lt op)

/-- The row the table gives a byte. Total: R85. -/
def opcodeRow (op : Byte) : OpRow :=
  (opcodePage op)[op.toNat % 16]'(by
    rw [opcodePage, opcodePages_full ⟨op.toNat / 16, highNibble_lt op⟩]; exact Nat.mod_lt _ (by decide))

/-! ### The parameter OPMAP -/

/-- Exchange two byte values. -/
def exchange (p : Byte × Byte) (b : Byte) : Byte := if b = p.1 then p.2 else if b = p.2 then p.1 else b

/-- The byte that a map gives the instruction to which the table gives byte `d` (R7). -/
def opByte : OpMap → Byte → Byte
  | [], d => d
  | p :: m, d => opByte m (exchange p d)

/-- The byte that the table gives the instruction to which a map gives byte `b`. -/
def tableByte : OpMap → Byte → Byte
  | [], b => b
  | p :: m, b => exchange p (tableByte m b)

/-- The default of OPMAP: the table itself (R7, R86). -/
abbrev tableMap : OpMap := []

/-! ### The decoder -/

/-- How many immediate bytes follow an opcode: `k` for PUSH-k, else 0 (R80). -/
def immLen (m : OpMap) (op : Byte) : Nat := (opcodeRow (tableByte m op)).immBytes

/-- Instruction length from the opcode byte: `k + 1` for PUSH-k, else 1, trap bytes included (R81). -/
def instrLen (m : OpMap) (op : Byte) : Nat := immLen m op + 1

/-- The decoder proper, total over the 256 byte values (R85): the instruction of an opcode byte, given the zero-extended immediate (R83)
that PUSH-k carries and every other opcode ignores. -/
def decodeOpcode (m : OpMap) (op : Byte) (imm : Word) : Instr := (opcodeRow (tableByte m op)).make imm

/-- Why a list of bytes is not an instruction followed by a rest. No byte value is among the reasons (R85, R88). -/
inductive DecodeError where
  /-- The list is empty: there is no opcode byte. -/
  | noOpcode
  /-- The opcode is PUSH-k and fewer than `need` bytes follow it. (CORE's own fetch never meets this: it reads zero-padded code, R60, R83.) -/
  | truncatedImmediate (need have_ : Nat)
  deriving DecidableEq, Repr

/-- Decode the instruction a list of bytes begins with, and give the rest of the list (R80, R83). -/
def decode (m : OpMap) (bs : List Byte) : Except DecodeError (Instr × List Byte) :=
  match bs with
  | [] => .error .noOpcode
  | op :: rest =>
    if rest.length < immLen m op then .error (.truncatedImmediate (immLen m op) rest.length)
    else .ok (decodeOpcode m op (Machine.beWord (rest.take (immLen m op))), rest.drop (immLen m op))

/-! ### The encoder -/

/-- The encoding row of an instruction, written out from R86 and R87: the byte the table gives it, how many immediate bytes it has, and its immediate. -/
def encodingOf (i : Instr) : Byte × Nat × Word :=
  match i with
  | .stop => (0x00, 0, 0)
  | .add => (0x01, 0, 0)
  | .mul => (0x02, 0, 0)
  | .sub => (0x03, 0, 0)
  | .div => (0x04, 0, 0)
  | .sdiv => (0x05, 0, 0)
  | .mod => (0x06, 0, 0)
  | .smod => (0x07, 0, 0)
  | .addmod => (0x08, 0, 0)
  | .mulmod => (0x09, 0, 0)
  | .exp => (0x0A, 0, 0)
  | .signextend => (0x0B, 0, 0)
  | .trap0x0C => (0x0C, 0, 0)
  | .trap0x0D => (0x0D, 0, 0)
  | .trap0x0E => (0x0E, 0, 0)
  | .trap0x0F => (0x0F, 0, 0)
  | .lt => (0x10, 0, 0)
  | .gt => (0x11, 0, 0)
  | .slt => (0x12, 0, 0)
  | .sgt => (0x13, 0, 0)
  | .eq => (0x14, 0, 0)
  | .iszero => (0x15, 0, 0)
  | .and => (0x16, 0, 0)
  | .or => (0x17, 0, 0)
  | .xor => (0x18, 0, 0)
  | .not => (0x19, 0, 0)
  | .byte => (0x1A, 0, 0)
  | .shl => (0x1B, 0, 0)
  | .shr => (0x1C, 0, 0)
  | .sar => (0x1D, 0, 0)
  | .trap0x1E => (0x1E, 0, 0)
  | .trap0x1F => (0x1F, 0, 0)
  | .trap0x20 => (0x20, 0, 0)
  | .trap0x21 => (0x21, 0, 0)
  | .trap0x22 => (0x22, 0, 0)
  | .trap0x23 => (0x23, 0, 0)
  | .trap0x24 => (0x24, 0, 0)
  | .trap0x25 => (0x25, 0, 0)
  | .trap0x26 => (0x26, 0, 0)
  | .trap0x27 => (0x27, 0, 0)
  | .trap0x28 => (0x28, 0, 0)
  | .trap0x29 => (0x29, 0, 0)
  | .trap0x2A => (0x2A, 0, 0)
  | .trap0x2B => (0x2B, 0, 0)
  | .trap0x2C => (0x2C, 0, 0)
  | .trap0x2D => (0x2D, 0, 0)
  | .trap0x2E => (0x2E, 0, 0)
  | .trap0x2F => (0x2F, 0, 0)
  | .trap0x30 => (0x30, 0, 0)
  | .trap0x31 => (0x31, 0, 0)
  | .trap0x32 => (0x32, 0, 0)
  | .trap0x33 => (0x33, 0, 0)
  | .trap0x34 => (0x34, 0, 0)
  | .calldataload => (0x35, 0, 0)
  | .calldatasize => (0x36, 0, 0)
  | .calldatacopy => (0x37, 0, 0)
  | .codesize => (0x38, 0, 0)
  | .codecopy => (0x39, 0, 0)
  | .trap0x3A => (0x3A, 0, 0)
  | .trap0x3B => (0x3B, 0, 0)
  | .trap0x3C => (0x3C, 0, 0)
  | .trap0x3D => (0x3D, 0, 0)
  | .trap0x3E => (0x3E, 0, 0)
  | .trap0x3F => (0x3F, 0, 0)
  | .trap0x40 => (0x40, 0, 0)
  | .trap0x41 => (0x41, 0, 0)
  | .trap0x42 => (0x42, 0, 0)
  | .trap0x43 => (0x43, 0, 0)
  | .trap0x44 => (0x44, 0, 0)
  | .trap0x45 => (0x45, 0, 0)
  | .trap0x46 => (0x46, 0, 0)
  | .trap0x47 => (0x47, 0, 0)
  | .trap0x48 => (0x48, 0, 0)
  | .trap0x49 => (0x49, 0, 0)
  | .trap0x4A => (0x4A, 0, 0)
  | .trap0x4B => (0x4B, 0, 0)
  | .trap0x4C => (0x4C, 0, 0)
  | .trap0x4D => (0x4D, 0, 0)
  | .trap0x4E => (0x4E, 0, 0)
  | .trap0x4F => (0x4F, 0, 0)
  | .pop => (0x50, 0, 0)
  | .mload => (0x51, 0, 0)
  | .mstore => (0x52, 0, 0)
  | .mstore8 => (0x53, 0, 0)
  | .trap0x54 => (0x54, 0, 0)
  | .trap0x55 => (0x55, 0, 0)
  | .jump => (0x56, 0, 0)
  | .jumpi => (0x57, 0, 0)
  | .pc => (0x58, 0, 0)
  | .msize => (0x59, 0, 0)
  | .trap0x5A => (0x5A, 0, 0)
  | .jumpdest => (0x5B, 0, 0)
  | .trap0x5C => (0x5C, 0, 0)
  | .trap0x5D => (0x5D, 0, 0)
  | .trap0x5E => (0x5E, 0, 0)
  | .trap0x5F => (0x5F, 0, 0)
  | .push1 imm => (0x60, 1, imm)
  | .push2 imm => (0x61, 2, imm)
  | .push3 imm => (0x62, 3, imm)
  | .push4 imm => (0x63, 4, imm)
  | .push5 imm => (0x64, 5, imm)
  | .push6 imm => (0x65, 6, imm)
  | .push7 imm => (0x66, 7, imm)
  | .push8 imm => (0x67, 8, imm)
  | .push9 imm => (0x68, 9, imm)
  | .push10 imm => (0x69, 10, imm)
  | .push11 imm => (0x6A, 11, imm)
  | .push12 imm => (0x6B, 12, imm)
  | .push13 imm => (0x6C, 13, imm)
  | .push14 imm => (0x6D, 14, imm)
  | .push15 imm => (0x6E, 15, imm)
  | .push16 imm => (0x6F, 16, imm)
  | .push17 imm => (0x70, 17, imm)
  | .push18 imm => (0x71, 18, imm)
  | .push19 imm => (0x72, 19, imm)
  | .push20 imm => (0x73, 20, imm)
  | .push21 imm => (0x74, 21, imm)
  | .push22 imm => (0x75, 22, imm)
  | .push23 imm => (0x76, 23, imm)
  | .push24 imm => (0x77, 24, imm)
  | .push25 imm => (0x78, 25, imm)
  | .push26 imm => (0x79, 26, imm)
  | .push27 imm => (0x7A, 27, imm)
  | .push28 imm => (0x7B, 28, imm)
  | .push29 imm => (0x7C, 29, imm)
  | .push30 imm => (0x7D, 30, imm)
  | .push31 imm => (0x7E, 31, imm)
  | .push32 imm => (0x7F, 32, imm)
  | .dup1 => (0x80, 0, 0)
  | .dup2 => (0x81, 0, 0)
  | .dup3 => (0x82, 0, 0)
  | .dup4 => (0x83, 0, 0)
  | .dup5 => (0x84, 0, 0)
  | .dup6 => (0x85, 0, 0)
  | .dup7 => (0x86, 0, 0)
  | .dup8 => (0x87, 0, 0)
  | .dup9 => (0x88, 0, 0)
  | .dup10 => (0x89, 0, 0)
  | .dup11 => (0x8A, 0, 0)
  | .dup12 => (0x8B, 0, 0)
  | .dup13 => (0x8C, 0, 0)
  | .dup14 => (0x8D, 0, 0)
  | .dup15 => (0x8E, 0, 0)
  | .dup16 => (0x8F, 0, 0)
  | .swap1 => (0x90, 0, 0)
  | .swap2 => (0x91, 0, 0)
  | .swap3 => (0x92, 0, 0)
  | .swap4 => (0x93, 0, 0)
  | .swap5 => (0x94, 0, 0)
  | .swap6 => (0x95, 0, 0)
  | .swap7 => (0x96, 0, 0)
  | .swap8 => (0x97, 0, 0)
  | .swap9 => (0x98, 0, 0)
  | .swap10 => (0x99, 0, 0)
  | .swap11 => (0x9A, 0, 0)
  | .swap12 => (0x9B, 0, 0)
  | .swap13 => (0x9C, 0, 0)
  | .swap14 => (0x9D, 0, 0)
  | .swap15 => (0x9E, 0, 0)
  | .swap16 => (0x9F, 0, 0)
  | .trap0xA0 => (0xA0, 0, 0)
  | .trap0xA1 => (0xA1, 0, 0)
  | .trap0xA2 => (0xA2, 0, 0)
  | .trap0xA3 => (0xA3, 0, 0)
  | .trap0xA4 => (0xA4, 0, 0)
  | .trap0xA5 => (0xA5, 0, 0)
  | .trap0xA6 => (0xA6, 0, 0)
  | .trap0xA7 => (0xA7, 0, 0)
  | .trap0xA8 => (0xA8, 0, 0)
  | .trap0xA9 => (0xA9, 0, 0)
  | .trap0xAA => (0xAA, 0, 0)
  | .trap0xAB => (0xAB, 0, 0)
  | .trap0xAC => (0xAC, 0, 0)
  | .trap0xAD => (0xAD, 0, 0)
  | .trap0xAE => (0xAE, 0, 0)
  | .trap0xAF => (0xAF, 0, 0)
  | .trap0xB0 => (0xB0, 0, 0)
  | .trap0xB1 => (0xB1, 0, 0)
  | .trap0xB2 => (0xB2, 0, 0)
  | .trap0xB3 => (0xB3, 0, 0)
  | .trap0xB4 => (0xB4, 0, 0)
  | .trap0xB5 => (0xB5, 0, 0)
  | .trap0xB6 => (0xB6, 0, 0)
  | .trap0xB7 => (0xB7, 0, 0)
  | .trap0xB8 => (0xB8, 0, 0)
  | .trap0xB9 => (0xB9, 0, 0)
  | .trap0xBA => (0xBA, 0, 0)
  | .trap0xBB => (0xBB, 0, 0)
  | .trap0xBC => (0xBC, 0, 0)
  | .trap0xBD => (0xBD, 0, 0)
  | .trap0xBE => (0xBE, 0, 0)
  | .trap0xBF => (0xBF, 0, 0)
  | .trap0xC0 => (0xC0, 0, 0)
  | .trap0xC1 => (0xC1, 0, 0)
  | .trap0xC2 => (0xC2, 0, 0)
  | .trap0xC3 => (0xC3, 0, 0)
  | .trap0xC4 => (0xC4, 0, 0)
  | .trap0xC5 => (0xC5, 0, 0)
  | .trap0xC6 => (0xC6, 0, 0)
  | .trap0xC7 => (0xC7, 0, 0)
  | .trap0xC8 => (0xC8, 0, 0)
  | .trap0xC9 => (0xC9, 0, 0)
  | .trap0xCA => (0xCA, 0, 0)
  | .trap0xCB => (0xCB, 0, 0)
  | .trap0xCC => (0xCC, 0, 0)
  | .trap0xCD => (0xCD, 0, 0)
  | .trap0xCE => (0xCE, 0, 0)
  | .trap0xCF => (0xCF, 0, 0)
  | .trap0xD0 => (0xD0, 0, 0)
  | .trap0xD1 => (0xD1, 0, 0)
  | .trap0xD2 => (0xD2, 0, 0)
  | .trap0xD3 => (0xD3, 0, 0)
  | .trap0xD4 => (0xD4, 0, 0)
  | .trap0xD5 => (0xD5, 0, 0)
  | .trap0xD6 => (0xD6, 0, 0)
  | .trap0xD7 => (0xD7, 0, 0)
  | .trap0xD8 => (0xD8, 0, 0)
  | .trap0xD9 => (0xD9, 0, 0)
  | .trap0xDA => (0xDA, 0, 0)
  | .trap0xDB => (0xDB, 0, 0)
  | .trap0xDC => (0xDC, 0, 0)
  | .trap0xDD => (0xDD, 0, 0)
  | .trap0xDE => (0xDE, 0, 0)
  | .trap0xDF => (0xDF, 0, 0)
  | .trap0xE0 => (0xE0, 0, 0)
  | .trap0xE1 => (0xE1, 0, 0)
  | .trap0xE2 => (0xE2, 0, 0)
  | .trap0xE3 => (0xE3, 0, 0)
  | .trap0xE4 => (0xE4, 0, 0)
  | .trap0xE5 => (0xE5, 0, 0)
  | .trap0xE6 => (0xE6, 0, 0)
  | .trap0xE7 => (0xE7, 0, 0)
  | .trap0xE8 => (0xE8, 0, 0)
  | .trap0xE9 => (0xE9, 0, 0)
  | .trap0xEA => (0xEA, 0, 0)
  | .trap0xEB => (0xEB, 0, 0)
  | .trap0xEC => (0xEC, 0, 0)
  | .trap0xED => (0xED, 0, 0)
  | .trap0xEE => (0xEE, 0, 0)
  | .trap0xEF => (0xEF, 0, 0)
  | .trap0xF0 => (0xF0, 0, 0)
  | .trap0xF1 => (0xF1, 0, 0)
  | .trap0xF2 => (0xF2, 0, 0)
  | .return_ => (0xF3, 0, 0)
  | .trap0xF4 => (0xF4, 0, 0)
  | .trap0xF5 => (0xF5, 0, 0)
  | .trap0xF6 => (0xF6, 0, 0)
  | .trap0xF7 => (0xF7, 0, 0)
  | .trap0xF8 => (0xF8, 0, 0)
  | .trap0xF9 => (0xF9, 0, 0)
  | .trap0xFA => (0xFA, 0, 0)
  | .trap0xFB => (0xFB, 0, 0)
  | .trap0xFC => (0xFC, 0, 0)
  | .revert => (0xFD, 0, 0)
  | .invalid => (0xFE, 0, 0)
  | .trap0xFF => (0xFF, 0, 0)

/-- The bytes of an instruction (R80): the opcode, then for PUSH-k its `k` immediate bytes, most significant first. -/
def encode (m : OpMap) (i : Instr) : List Byte :=
  opByte m (encodingOf i).1 :: Machine.beBytes (encodingOf i).2.1 (encodingOf i).2.2

/-! ### Words as spec/opcode_table.json numbers them -/

/-- `n` bytes of a number, least significant first: bit 0 of the number is bit 0 of the first byte. -/
def leBytes : Nat → Nat → List Byte
  | 0, _ => []
  | n + 1, w => BitVec.ofNat 8 w :: leBytes n (w / 256)

/-- The bytes, first byte first, of an instruction whose low `nbits` bits are those of `w` and whose other bits are 0, up to the longest
instruction (33 bytes, R80). -/
def tableBytes (nbits w : Nat) : List Byte := leBytes 33 (w % 2 ^ nbits)

/-- The same instruction under a map: the table numbers the opcode byte, the map renumbers it. -/
def renumber (m : OpMap) : List Byte → List Byte
  | [] => []
  | op :: rest => opByte m op :: rest

/-- The instruction the decoder reads from a row of spec/opcode_table.json, whose byte values are the table's. -/
def decodeTableWord (nbits w : Nat) : Option Instr :=
  match decode tableMap (tableBytes nbits w) with
  | .ok (i, _) => some i
  | .error _ => none

end Sys2Proof
end

