-- ==== Sys2Proof/Machine/Params.lean ====
section
/-! DEFINITION. The parameter values the reset State carries (log 1, log 5, log 6). DESIGN CHOICE, unsafe for a claim about runs from reset alone: the
spec leaves them open (00_scope.md R7), so a claim meant of every implementation quantifies over the state's `cfg`. -/

namespace Sys2Proof.Machine

/-- OPMAP is its default, the table of 30_encoding.md R86 and R87 (log 1). MEM_LIMIT is the value 95_test_vectors.md runs its vectors with, OVERSIZE_ERROR the default of R7; the code, input and position limits are
the largest R7 admits, so that they shut out no frame. -/
def defaultConfig : Config :=
  { opmap := [], memLimit := 65536, oversizeError := .invalidRange, maxCodeLen := 2 ^ 256 - 33, maxInputLen := 2 ^ 256 - 1, pcBits := 256 }

end Sys2Proof.Machine
end

