-- ==== Sys2Proof/Machine/State.lean ====
section
/-! DEFINITION. What the machine holds (10_state.md R20), the values a step returns (R32, R33), the reasons a step can stop, and the state at
frame start (R37, R310). Everything is plain data. -/

namespace Sys2Proof.Machine

/-! ### Exit reasons, control effects, run state -/

/-- The success reasons (R33, 60_exceptions.md R288). -/
inductive Success where
  /-- STOP, and the fetch past the end of code. -/
  | stopped
  /-- RETURN, with its payload. -/
  | returned (payload : List Byte)
  /-- Never produced by CORE (R288); the host may produce it when it answers a trap. -/
  | selfDestructed
  deriving DecidableEq, Repr

/-- The error reasons (R33, 60_exceptions.md R281 to R287). -/
inductive ErrorReason where
  /-- Fewer stack words than the instruction needs (R281). -/
  | stackUnderflow
  /-- The instruction would leave more than 1024 words (R282). -/
  | stackOverflow
  /-- The target of a JUMP or of a taken JUMPI is not valid (R283). -/
  | invalidJump
  /-- A memory access beyond MEM_LIMIT, when OVERSIZE_ERROR = InvalidRange (R284). -/
  | invalidRange
  /-- INVALID (R285). -/
  | designatedInvalid
  /-- Never produced by CORE (R287). -/
  | pcUnderflow
  /-- A memory access beyond MEM_LIMIT, when OVERSIZE_ERROR = Other; its opaque detail is a unit, as R286 allows (log 17). -/
  | other (detail : Unit)
  deriving DecidableEq, Repr

/-- The exit reason (R33): three categories (90_conflicts.md C5). -/
inductive Reason where
  | succeed (how : Success)
  /-- `Revert(Reverted, payload)`: neither success nor error (45_control.md R268). -/
  | revert (payload : List Byte)
  | error (why : ErrorReason)
  deriving DecidableEq, Repr

/-- The control effect a handler returns (R32). -/
inductive Control where
  /-- `Continue(n)`: advance position by n. -/
  | advance (n : Nat)
  /-- `Jump(target)`: set position to target, already validated. -/
  | jump (target : Nat)
  /-- `Exit(reason)`: terminate execution. -/
  | exit (reason : Reason)
  /-- `Trap(opcode)`: not handled here, the caller must interpret it. -/
  | trap (opcode : Byte)
  deriving DecidableEq, Repr

/-- The run state (R34). -/
inductive Run where
  | running
  | exited (reason : Reason)
  | trapped (opcode : Byte)
  deriving DecidableEq, Repr

/-! ### Memory, the host, the state -/

/-- The bytes of memory that are not 0, addresses strictly rising (R27). An address that is not listed reads 0 (log 18). The operations are in
Sys2Proof/Machine/Ops.lean. -/
abbrev Memory := List Host.Cell

/-- The canonical form of memory: addresses strictly rising, and no entry equal to what an unlisted address reads as. -/
abbrev Memory.wf (m : Memory) : Prop := List.Pairwise (fun c d => c.1 < d.1) m ∧ ∀ c ∈ m, c.2 ≠ 0

/-- What the host answers to a trap (60_exceptions.md R292): resume with a new stack, memory and position, or end the frame. -/
inductive HostAnswer where
  | resume (stack : List Word) (mem : Memory) (memLen : Nat) (pc : Nat)
  | exit (reason : Reason)
  deriving DecidableEq, Repr

/-- The state of one execution context (R20). `cfg` and `hostAnswers` are the model's own: the open parameters of 00_scope.md R7 (log 5, log 6),
and HOST_TRAP, the answers the host will give to traps, oldest first (log 12). -/
structure State where
  /-- The operand stack, top first (R21). -/
  stack : List Word
  /-- The position register: the byte offset of the instruction being stepped (R26). -/
  pc : Nat
  /-- The contents of memory (R27). -/
  mem : Memory
  /-- `mem_len`, the length of memory in bytes (R27, R28). -/
  memLen : Nat
  /-- The code buffer, read-only (R29). -/
  code : List Byte
  /-- The input buffer (call data), read-only (R30). -/
  input : List Byte
  /-- The run state with the exit reason it carries (R34). -/
  run : Run
  /-- The open parameters (R7); no step writes them. -/
  cfg : Config
  /-- The host's answers to come (R292). -/
  hostAnswers : List HostAnswer
  deriving DecidableEq, Repr

/-! ### Why a step can stop -/

/-- The machine stops with a fault. No instruction raises one: every error of the spec is an exit of the frame, a next state (R280). -/
inductive Fault where
  /-- Raised by `step` in a Trapped state when the host has given no answer: the machine is suspended, "from which only the host can move the
  machine" (R34; 93_implementation_defined.md I1, stuck). Safe: nothing is claimed of what the host does. -/
  | awaitingHost (opcode : Byte)
  deriving DecidableEq, Repr

/-- No meaning is given. -/
inductive Refusal where
  /-- Raised by an arm of `exec` whose instruction has no meaning yet; no arm does so. Safe. -/
  | notModelled (mnemonic : String)
  /-- Raised by `step` in a Trapped state when the host's Resume breaks the invariants of R21, R27, R28 or does not fit the position register
  (R292; 93_implementation_defined.md I6: refuse such states as inputs). Safe: such an answer is no run of the machine. -/
  | hostAnswerIllFormed (opcode : Byte)
  deriving DecidableEq, Repr

/-- The state at frame start (R37, R310): stack and memory empty, position 0 (D9, log 8), running. `code` and `input` are "supplied by the host":
here empty until a program is loaded (log 14). -/
def State.reset : State :=
  { stack := [], pc := 0, mem := [], memLen := 0, code := [], input := [], run := .running, cfg := defaultConfig, hostAnswers := [] }

end Sys2Proof.Machine
end

