-- ==== Sys2Proof/Machine/Operands.lean ====
section
/-! DEFINITION. The operand forms (30_encoding.md R84): stack words, addressed from the top (00_scope.md R10), and the two stack rearrangements
that are not a pop or a push. The other operand form, the immediate, is a field of the instruction. -/

namespace Sys2Proof.Machine

/-- `depth` (R10, R21). -/
def State.depth (s : State) : Nat := s.stack.length

/-- `x[i]`, the word `i` places below the top (R10). A handler reads it only after the check of 40_dispatch.md R103 has passed, so the value for
`i ≥ depth` is never used. -/
def State.x (s : State) (i : Nat) : Word := s.stack.getD i 0

/-- Remove the `p` topmost words and push `results`, its first word becoming `x[0]` (R22, R23). -/
def replaceTop (p : Nat) (results : List Word) (s : State) : State :=
  { s with stack := results ++ s.stack.drop p }

/-- `swap(n)`: exchange `x[0]` and `x[n]` (10_state.md R25). -/
def swapTop (n : Nat) (s : State) : State :=
  { s with stack := (s.stack.set 0 (s.x n)).set n (s.x 0) }

end Sys2Proof.Machine
end

