-- ==== Sys2Proof/Machine/Ops.lean ====
section
/-! DEFINITION. The shared operations every meaning is written with: the control-flow multiplexer, raising an error and trapping to the host, the
checks, memory (20_memory.md R56 to R59), fetching, and the host's answer to a trap. -/

namespace Sys2Proof.Machine

/-- What a step answers. -/
abbrev Result := Host.Outcome State Fault Refusal

/-! ### The control-flow multiplexer, errors, traps -/

/-- The control-flow multiplexer `Apply(effect)` (40_dispatch.md R108). -/
def apply (c : Control) (s : State) : State :=
  match c with
  | .advance n => { s with pc := s.pc + n, run := .running }
  | .jump target => { s with pc := target, run := .running }
  | .exit reason => { s with run := .exited reason }
  | .trap opcode => { s with run := .trapped opcode }

/-- A handler's end: the context it leaves and the control effect it returns, applied (R107). -/
def finish (c : Control) (s : State) : Result := .next (apply c s)

/-- `raise Exit(Error: e)`: end the step, nothing else changed (00_scope.md R11, 40_dispatch.md R104). This is how every exception of the machine
is taken: nothing is saved and there is no handler address (60_exceptions.md R291). -/
def raise (e : ErrorReason) (s : State) : Result := finish (.exit (.error e)) s

/-- `return Trap(opcode)`: escalate to the host, the context unchanged (40_dispatch.md R106). -/
def trapTo (opcode : Byte) (s : State) : Result := finish (.trap opcode) s

/-- A trap row's handler: `Trap(opcode)` with the opcode byte dispatched, which is the byte OPMAP gives the row (R106, 00_scope.md R7). -/
def trapRow (row : Byte) (s : State) : Result := trapTo (opByte s.cfg.opmap row) s

/-- The invariants a Resume must respect (60_exceptions.md R292, 10_state.md R21, R27, R28), and the width of the position register (R26). -/
def resumeFits (cfg : Config) (stack : List Word) (mem : Memory) (memLen pc : Nat) : Bool :=
  decide (stack.length ≤ stackLimit) && decide (memLen % memGranule = 0) && decide (memLen ≤ cfg.memLimit) &&
    decide (Memory.wf mem) && mem.all (fun c => decide (c.1 < memLen)) && decide (pc < 2 ^ cfg.pcBits)

/-- Return from a trap: the host's answer to `Trap(opcode)` (60_exceptions.md R292, R293). With no answer the machine stays suspended. -/
def hostTrap (opcode : Byte) (s : State) : Result :=
  match s.hostAnswers with
  | [] => .fault (.awaitingHost opcode)
  | .exit reason :: more => .next { s with run := .exited reason, hostAnswers := more }
  | .resume stack mem memLen pc :: more =>
    if resumeFits s.cfg stack mem memLen pc then
      .next { s with stack := stack, mem := mem, memLen := memLen, pc := pc, run := .running, hostAnswers := more }
    else .refused (.hostAnswerIllFormed opcode)

/-! ### Checks -/

/-- The common stack checks of 40_dispatch.md R103, in order, for an instruction that needs `need` words, pops `p` and pushes `q`. -/
def stackError (need p q depth : Nat) : Option ErrorReason :=
  if depth < need then some .stackUnderflow
  else if depth - p + q > stackLimit then some .stackOverflow
  else none

/-- Make the common stack checks first, then `k` (R103). `k` is a function so that it is run only when the checks pass. -/
def checked (need p q : Nat) (s : State) (k : Unit → Result) : Result :=
  match stackError need p q s.depth with
  | some e => raise e s
  | none => k ()

/-- The error an over-limit access reports: the parameter OVERSIZE_ERROR (R284, R286). -/
def oversize (cfg : Config) : ErrorReason :=
  match cfg.oversizeError with
  | .invalidRange => .invalidRange
  | .other => .other ()

/-- The range test of `MemExpand(addr, n)` (20_memory.md R56): an access of length 0 makes none (R62), the sum is exact (R63). -/
def rangeError (cfg : Config) (addr n : Nat) : Option ErrorReason :=
  if n = 0 then none else if addr + n > cfg.memLimit then some (oversize cfg) else none

/-- Make the range test of an access of `n` bytes at `addr`, then `k` (40_dispatch.md R104: before anything is changed). -/
def ranged (addr n : Nat) (s : State) (k : Unit → Result) : Result :=
  match rangeError s.cfg addr n with
  | some e => raise e s
  | none => k ()

/-! ### Memory -/

/-- The byte at an address; one that is not listed reads 0 (10_state.md R27). -/
def Memory.read : Memory → Nat → Byte
  | [], _ => 0
  | (a, b) :: m, x => if a = x then b else Memory.read m x

/-- Set the byte at an address, keeping the canonical form: writing 0 removes the entry. -/
def Memory.write : Memory → Nat → Byte → Memory
  | [], x, v => if v = 0 then [] else [(x, v)]
  | (a, b) :: m, x, v =>
    if x < a then (if v = 0 then (a, b) :: m else (x, v) :: (a, b) :: m)
    else if x = a then (if v = 0 then m else (x, v) :: m)
    else (a, b) :: Memory.write m x v

/-- Set every byte at or above an address to 0. -/
def Memory.zeroFrom (m : Memory) (a : Nat) : Memory := m.filter (fun c => decide (c.1 < a))

/-- `n` consecutive bytes from an address. -/
def Memory.readBytes (m : Memory) : Nat → Nat → List Byte
  | _, 0 => []
  | a, n + 1 => Memory.read m a :: Memory.readBytes m (a + 1) n

/-- Write a byte sequence at an address: `mem[addr + j] <- v_j` (R59). -/
def Memory.writeBytes : Memory → Nat → List Byte → Memory
  | m, _, [] => m
  | m, a, b :: bs => Memory.writeBytes (Memory.write m a b) (a + 1) bs

/-- `ceil32(n)`: the smallest multiple of 32 that is `≥ n` (00_scope.md R11). -/
def ceil32 (n : Nat) : Nat := (n + (memGranule - 1)) / memGranule * memGranule

/-- The growth part of `MemExpand(addr, n)` (R56), after the range test: cover the highest byte touched, zero-filling what is newly exposed. -/
def memExpand (addr n : Nat) (s : State) : State :=
  if n = 0 then s
  else if addr + n > s.memLen then { s with mem := s.mem.zeroFrom s.memLen, memLen := ceil32 (addr + n) }
  else s

/-- The bytes `MemRead(addr, n)` returns (R58): those of memory after the expansion. -/
def memBytes (addr n : Nat) (s : State) : List Byte := (memExpand addr n s).mem.readBytes addr n

/-- `MemWrite(addr, n, v)`, `v` a sequence of length `n`, after the range test (R59): expand, then write. -/
def memWrite (addr : Nat) (v : List Byte) (s : State) : State :=
  { memExpand addr v.length s with mem := (memExpand addr v.length s).mem.writeBytes addr v }

/-! ### Code and input, fetch -/

/-- `CodeRead(off, n)` (R60). -/
def codeRead (s : State) (off n : Nat) : List Byte := bufferRead s.code off n

/-- `InputRead(off, n)` (R61). -/
def inputRead (s : State) (off n : Nat) : List Byte := bufferRead s.input off n

/-- `Fetch(pc) = CodeRead(pc, 1)`, one byte, 0x00 at or past the end of code (40_dispatch.md R102, R109). -/
def fetchOpcode (s : State) : Byte := s.code.getD s.pc 0

/-- The instruction at the position: the fetched opcode, and for PUSH-k the immediate `be(CodeRead(pc + 1, k))` (30_encoding.md R83). Total (R85), under the
state's OPMAP (R7). -/
def fetchInstr (s : State) : Instr :=
  decodeOpcode s.cfg.opmap (fetchOpcode s) (beWord (codeRead s (s.pc + 1) (immLen s.cfg.opmap (fetchOpcode s))))

/-- A code buffer with the given bytes placed at a position, zero-padded up to it where it is shorter (for State.withFetchWord, log 23). -/
def placeCode (code : List Byte) (pos : Nat) (bytes : List Byte) : List Byte :=
  code.take pos ++ List.replicate (pos - code.length) 0 ++ bytes ++ code.drop (pos + bytes.length)

/-! ### Shapes shared by many meanings -/

/-- `OP(a)`: replace the top word by one result (42_bitwise.md R140). -/
def unary (f : Word → Word) (s : State) : Result :=
  checked 1 1 1 s fun _ => finish (.advance 1) (replaceTop 1 [f (s.x 0)] s)

/-- `OP(a, b)`: `a` the first word popped; one result is pushed (41_arithmetic.md R120, 42_bitwise.md R140). -/
def binary (f : Word → Word → Word) (s : State) : Result :=
  checked 2 2 1 s fun _ => finish (.advance 1) (replaceTop 2 [f (s.x 0) (s.x 1)] s)

/-- `OP(a, b, n)`: three words popped, one result pushed (41_arithmetic.md R120). -/
def ternary (f : Word → Word → Word → Word) (s : State) : Result :=
  checked 3 3 1 s fun _ => finish (.advance 1) (replaceTop 3 [f (s.x 0) (s.x 1) (s.x 2)] s)

/-- Push one word and advance past an instruction of `len` bytes. -/
def pushWord (len : Nat) (w : Word) (s : State) : Result :=
  checked 0 0 1 s fun _ => finish (.advance len) (replaceTop 0 [w] s)

/-- PUSH-k (43_stack.md R161): push the immediate, advance by `k + 1`. -/
def pushImm (k : Nat) (imm : Word) (s : State) : Result := pushWord (k + 1) imm s

/-- DUP-n (43_stack.md R194): push a copy of `x[n-1]`. -/
def dup (n : Nat) (s : State) : Result :=
  checked n 0 1 s fun _ => finish (.advance 1) (replaceTop 0 [s.x (n - 1)] s)

/-- SWAP-n (43_stack.md R211): exchange `x[0]` and `x[n]`; it needs `n + 1` words (90_conflicts.md C2). -/
def swap (n : Nat) (s : State) : Result :=
  checked (n + 1) 0 0 s fun _ => finish (.advance 1) (swapTop n s)

/-- CALLDATACOPY and CODECOPY (44_memory_data.md R247, R249): pop `dst`, `src`, `len`; copy `len` bytes that `read` gives from `src` to memory at
`dst`. -/
def copyToMemory (read : Nat → Nat → List Byte) (s : State) : Result :=
  checked 3 3 0 s fun _ => ranged (s.x 0).toNat (s.x 2).toNat s fun _ =>
    finish (.advance 1) (replaceTop 3 [] (memWrite (s.x 0).toNat (read (s.x 1).toNat (s.x 2).toNat) s))

/-- RETURN and REVERT (45_control.md R267, R268): pop `addr`, `len`; exit with the bytes read as payload. -/
def exitWithBytes (reason : List Byte → Reason) (s : State) : Result :=
  checked 2 2 0 s fun _ => ranged (s.x 0).toNat (s.x 1).toNat s fun _ =>
    finish (.exit (reason (memBytes (s.x 0).toNat (s.x 1).toNat s)))
      (replaceTop 2 [] (memExpand (s.x 0).toNat (s.x 1).toNat s))

end Sys2Proof.Machine
end

