-- ==== Sys2Proof/Machine/Arithmetic.lean ====
section
/-! DEFINITION. The arithmetic instructions (41_arithmetic.md). Each pops its operands first to last from the top and pushes one result (R120);
none can overflow the stack or set a flag (R132). -/

namespace Sys2Proof.Machine

/-- R121 ADD: `r = a + b` modulo 2^256. -/
def execAdd (s : State) : Result := binary Alu.add s

/-- R122 MUL: `r = a * b` modulo 2^256. -/
def execMul (s : State) : Result := binary Alu.mul s

/-- R123 SUB: `r = a - b` modulo 2^256. -/
def execSub (s : State) : Result := binary Alu.sub s

/-- R124 DIV: unsigned quotient, 0 for a zero divisor. -/
def execDiv (s : State) : Result := binary Alu.div s

/-- R125 SDIV: signed quotient truncated toward zero, 0 for a zero divisor. -/
def execSdiv (s : State) : Result := binary Alu.sdiv s

/-- R126 MOD: unsigned remainder, 0 for a zero modulus. -/
def execMod (s : State) : Result := binary Alu.mod s

/-- R127 SMOD: remainder with the dividend's sign, 0 for a zero modulus. -/
def execSmod (s : State) : Result := binary Alu.smod s

/-- R128 ADDMOD: `(a + b) mod n` of the exact sum. -/
def execAddmod (s : State) : Result := ternary Alu.addmod s

/-- R129 MULMOD: `(a * b) mod n` of the exact product. -/
def execMulmod (s : State) : Result := ternary Alu.mulmod s

/-- R130 EXP: `a ^ b` modulo 2^256, base popped first. -/
def execExp (s : State) : Result := binary Alu.exp s

/-- R131 SIGNEXTEND: byte index popped first, then the value. -/
def execSignextend (s : State) : Result := binary Alu.signextend s

end Sys2Proof.Machine
end

