-- ==== Sys2Proof/Machine/Bitwise.lean ====
section
/-! DEFINITION. The comparison, bitwise and shift instructions (42_bitwise.md R140). -/

namespace Sys2Proof.Machine

/-- R141 LT: unsigned `a < b`. -/
def execLt (s : State) : Result := binary Alu.lt s

/-- R142 GT: unsigned `a > b`. -/
def execGt (s : State) : Result := binary Alu.gt s

/-- R143 SLT: signed `a < b`. -/
def execSlt (s : State) : Result := binary Alu.slt s

/-- R144 SGT: signed `a > b`. -/
def execSgt (s : State) : Result := binary Alu.sgt s

/-- R145 EQ: `a = b`. -/
def execEq (s : State) : Result := binary Alu.eq s

/-- R146 ISZERO: `a = 0`. -/
def execIszero (s : State) : Result := unary Alu.iszero s

/-- R147 AND: bitwise and. -/
def execAnd (s : State) : Result := binary Alu.and s

/-- R148 OR: bitwise or. -/
def execOr (s : State) : Result := binary Alu.or s

/-- R149 XOR: bitwise exclusive or. -/
def execXor (s : State) : Result := binary Alu.xor s

/-- R150 NOT: bitwise complement. -/
def execNot (s : State) : Result := unary Alu.not s

/-- R151 BYTE: byte index popped first, then the value. -/
def execByte (s : State) : Result := binary Alu.byte s

/-- R152 SHL: shift amount popped first, then the value. -/
def execShl (s : State) : Result := binary Alu.shl s

/-- R153 SHR: shift amount popped first, then the value. -/
def execShr (s : State) : Result := binary Alu.shr s

/-- R154 SAR: shift amount popped first, then the value. -/
def execSar (s : State) : Result := binary Alu.sar s

end Sys2Proof.Machine
end

