-- ==== Sys2Proof/Machine/Data.lean ====
section
/-! DEFINITION. The memory, call-input and code-access instructions (44_memory_data.md R240). -/

namespace Sys2Proof.Machine

/-- R241 MLOAD: pop `addr`, push the 32 bytes of memory at it, most significant first; memory expands as for a store (20_memory.md R57). -/
def execMload (s : State) : Result :=
  checked 1 1 1 s fun _ => ranged (s.x 0).toNat 32 s fun _ =>
    finish (.advance 1) (replaceTop 1 [beWord (memBytes (s.x 0).toNat 32 s)] (memExpand (s.x 0).toNat 32 s))

/-- R242 MSTORE: pop `addr`, `v`; store the 32 bytes of `v`, most significant at the lowest address (operand order: log 2). -/
def execMstore (s : State) : Result :=
  checked 2 2 0 s fun _ => ranged (s.x 0).toNat 32 s fun _ =>
    finish (.advance 1) (replaceTop 2 [] (memWrite (s.x 0).toNat (bytesBE (s.x 1)) s))

/-- R243 MSTORE8: pop `addr`, `v`; store the least significant byte of `v` (D4, log 3). -/
def execMstore8 (s : State) : Result :=
  checked 2 2 0 s fun _ => ranged (s.x 0).toNat 1 s fun _ =>
    finish (.advance 1) (replaceTop 2 [] (memWrite (s.x 0).toNat [(s.x 1).extractLsb' 0 8] s))

/-- R244 MSIZE: push the memory length in bytes. -/
def execMsize (s : State) : Result := pushWord 1 (BitVec.ofNat 256 s.memLen) s

/-- R245 CALLDATALOAD: pop `off`, push the 32 input bytes at it, zero-padded past the end, most significant first. -/
def execCalldataload (s : State) : Result :=
  unary (fun off => beWord (inputRead s off.toNat 32)) s

/-- R246 CALLDATASIZE: push the input length in bytes. -/
def execCalldatasize (s : State) : Result := pushWord 1 (BitVec.ofNat 256 s.input.length) s

/-- R247 CALLDATACOPY: copy input to memory. -/
def execCalldatacopy (s : State) : Result := copyToMemory (inputRead s) s

/-- R248 CODESIZE: push the code length in bytes. -/
def execCodesize (s : State) : Result := pushWord 1 (BitVec.ofNat 256 s.code.length) s

/-- R249 CODECOPY: copy code to memory. -/
def execCodecopy (s : State) : Result := copyToMemory (codeRead s) s

end Sys2Proof.Machine
end

