-- ==== Sys2Proof/Machine/Jump.lean ====
section
/-! DEFINITION. The jump-target validator (45_control.md R262, decision D13, log 11). -/

namespace Sys2Proof.Machine

/-- The opcode byte of JUMPDEST, read off the opcode map (R262). -/
def jumpdestOpcode (m : OpMap) : Byte := opByte m (encodingOf .jumpdest).1

/-- One linear sweep over the code: `pos` is the position of the first byte of the list, `skip` the number of immediate bytes still to be
skipped. Gives the positions of the JUMPDESTs at instruction boundaries, rising. -/
def sweep (m : OpMap) : List Byte → Nat → Nat → List Nat
  | [], _, _ => []
  | _ :: bs, pos, skip + 1 => sweep m bs (pos + 1) skip
  | b :: bs, pos, 0 =>
    if b = jumpdestOpcode m then pos :: sweep m bs (pos + 1) 0 else sweep m bs (pos + 1) (immLen m b)

/-- `VALID_JUMPDEST`, a function of the code (R262, 10_state.md R35) and, through the byte values, of OPMAP. -/
def validJumpdests (m : OpMap) (code : List Byte) : List Nat := sweep m code 0 0

/-- `IsValidJump(t)`: all 256 bits of the target are compared (R262). -/
def isValidJump (m : OpMap) (code : List Byte) (t : Word) : Bool :=
  decide (t.toNat < code.length) && (validJumpdests m code).contains t.toNat

end Sys2Proof.Machine
end

