-- ==== Sys2Proof/Machine/Flow.lean ====
section
/-! DEFINITION. The control-transfer, position and terminating instructions (45_control.md R260). -/

namespace Sys2Proof.Machine

/-- The jump both JUMP and a taken JUMPI make (R263): the target is validated before the `p` operands are popped (log 10). -/
def jumpTo (t : Word) (p : Nat) (s : State) : Result :=
  if isValidJump s.cfg.opmap s.code t then finish (.jump t.toNat) (replaceTop p [] s) else raise .invalidJump s

/-- R261 PC: push the position of this very instruction. -/
def execPc (s : State) : Result := pushWord 1 (BitVec.ofNat 256 s.pc) s

/-- R263 JUMP: pop the target and go there, if it is valid. -/
def execJump (s : State) : Result := checked 1 1 0 s fun _ => jumpTo (s.x 0) 1 s

/-- R264 JUMPI: pop target and condition; jump if the condition is not 0, else go on, the target unchecked. -/
def execJumpi (s : State) : Result :=
  checked 2 2 0 s fun _ =>
    if isTrue (s.x 1) then jumpTo (s.x 0) 2 s else finish (.advance 1) (replaceTop 2 [] s)

/-- R265 JUMPDEST: a no-op marker. -/
def execJumpdest (s : State) : Result := finish (.advance 1) s

/-- R266 STOP: exit, stopped. -/
def execStop (s : State) : Result := finish (.exit (.succeed .stopped)) s

/-- R267 RETURN: exit with data. -/
def execReturn (s : State) : Result := exitWithBytes (fun payload => .succeed (.returned payload)) s

/-- R268 REVERT: exit, reverted, with data. -/
def execRevert (s : State) : Result := exitWithBytes .revert s

/-- R269 INVALID: always the designated-invalid error. -/
def execInvalid (s : State) : Result := raise .designatedInvalid s

end Sys2Proof.Machine
end

