-- ==== Sys2Proof/Machine/Stack.lean ====
section
/-! DEFINITION. The stack instructions (43_stack.md): POP, PUSH1 to PUSH32, DUP1 to DUP16, SWAP1 to SWAP16. -/

namespace Sys2Proof.Machine

/-- R160 POP: discard the top word. -/
def execPop (s : State) : Result := checked 1 1 0 s fun _ => finish (.advance 1) (replaceTop 1 [] s)

/-- R162 PUSH1: R161 with k = 1. -/
def execPush1 (imm : Word) (s : State) : Result := pushImm 1 imm s

/-- R163 PUSH2: R161 with k = 2. -/
def execPush2 (imm : Word) (s : State) : Result := pushImm 2 imm s

/-- R164 PUSH3: R161 with k = 3. -/
def execPush3 (imm : Word) (s : State) : Result := pushImm 3 imm s

/-- R165 PUSH4: R161 with k = 4. -/
def execPush4 (imm : Word) (s : State) : Result := pushImm 4 imm s

/-- R166 PUSH5: R161 with k = 5. -/
def execPush5 (imm : Word) (s : State) : Result := pushImm 5 imm s

/-- R167 PUSH6: R161 with k = 6. -/
def execPush6 (imm : Word) (s : State) : Result := pushImm 6 imm s

/-- R168 PUSH7: R161 with k = 7. -/
def execPush7 (imm : Word) (s : State) : Result := pushImm 7 imm s

/-- R169 PUSH8: R161 with k = 8. -/
def execPush8 (imm : Word) (s : State) : Result := pushImm 8 imm s

/-- R170 PUSH9: R161 with k = 9. -/
def execPush9 (imm : Word) (s : State) : Result := pushImm 9 imm s

/-- R171 PUSH10: R161 with k = 10. -/
def execPush10 (imm : Word) (s : State) : Result := pushImm 10 imm s

/-- R172 PUSH11: R161 with k = 11. -/
def execPush11 (imm : Word) (s : State) : Result := pushImm 11 imm s

/-- R173 PUSH12: R161 with k = 12. -/
def execPush12 (imm : Word) (s : State) : Result := pushImm 12 imm s

/-- R174 PUSH13: R161 with k = 13. -/
def execPush13 (imm : Word) (s : State) : Result := pushImm 13 imm s

/-- R175 PUSH14: R161 with k = 14. -/
def execPush14 (imm : Word) (s : State) : Result := pushImm 14 imm s

/-- R176 PUSH15: R161 with k = 15. -/
def execPush15 (imm : Word) (s : State) : Result := pushImm 15 imm s

/-- R177 PUSH16: R161 with k = 16. -/
def execPush16 (imm : Word) (s : State) : Result := pushImm 16 imm s

/-- R178 PUSH17: R161 with k = 17. -/
def execPush17 (imm : Word) (s : State) : Result := pushImm 17 imm s

/-- R179 PUSH18: R161 with k = 18. -/
def execPush18 (imm : Word) (s : State) : Result := pushImm 18 imm s

/-- R180 PUSH19: R161 with k = 19. -/
def execPush19 (imm : Word) (s : State) : Result := pushImm 19 imm s

/-- R181 PUSH20: R161 with k = 20. -/
def execPush20 (imm : Word) (s : State) : Result := pushImm 20 imm s

/-- R182 PUSH21: R161 with k = 21. -/
def execPush21 (imm : Word) (s : State) : Result := pushImm 21 imm s

/-- R183 PUSH22: R161 with k = 22. -/
def execPush22 (imm : Word) (s : State) : Result := pushImm 22 imm s

/-- R184 PUSH23: R161 with k = 23. -/
def execPush23 (imm : Word) (s : State) : Result := pushImm 23 imm s

/-- R185 PUSH24: R161 with k = 24. -/
def execPush24 (imm : Word) (s : State) : Result := pushImm 24 imm s

/-- R186 PUSH25: R161 with k = 25. -/
def execPush25 (imm : Word) (s : State) : Result := pushImm 25 imm s

/-- R187 PUSH26: R161 with k = 26. -/
def execPush26 (imm : Word) (s : State) : Result := pushImm 26 imm s

/-- R188 PUSH27: R161 with k = 27. -/
def execPush27 (imm : Word) (s : State) : Result := pushImm 27 imm s

/-- R189 PUSH28: R161 with k = 28. -/
def execPush28 (imm : Word) (s : State) : Result := pushImm 28 imm s

/-- R190 PUSH29: R161 with k = 29. -/
def execPush29 (imm : Word) (s : State) : Result := pushImm 29 imm s

/-- R191 PUSH30: R161 with k = 30. -/
def execPush30 (imm : Word) (s : State) : Result := pushImm 30 imm s

/-- R192 PUSH31: R161 with k = 31. -/
def execPush31 (imm : Word) (s : State) : Result := pushImm 31 imm s

/-- R193 PUSH32: R161 with k = 32. -/
def execPush32 (imm : Word) (s : State) : Result := pushImm 32 imm s

/-- R195 DUP1: R194 with n = 1. -/
def execDup1 (s : State) : Result := dup 1 s

/-- R196 DUP2: R194 with n = 2. -/
def execDup2 (s : State) : Result := dup 2 s

/-- R197 DUP3: R194 with n = 3. -/
def execDup3 (s : State) : Result := dup 3 s

/-- R198 DUP4: R194 with n = 4. -/
def execDup4 (s : State) : Result := dup 4 s

/-- R199 DUP5: R194 with n = 5. -/
def execDup5 (s : State) : Result := dup 5 s

/-- R200 DUP6: R194 with n = 6. -/
def execDup6 (s : State) : Result := dup 6 s

/-- R201 DUP7: R194 with n = 7. -/
def execDup7 (s : State) : Result := dup 7 s

/-- R202 DUP8: R194 with n = 8. -/
def execDup8 (s : State) : Result := dup 8 s

/-- R203 DUP9: R194 with n = 9. -/
def execDup9 (s : State) : Result := dup 9 s

/-- R204 DUP10: R194 with n = 10. -/
def execDup10 (s : State) : Result := dup 10 s

/-- R205 DUP11: R194 with n = 11. -/
def execDup11 (s : State) : Result := dup 11 s

/-- R206 DUP12: R194 with n = 12. -/
def execDup12 (s : State) : Result := dup 12 s

/-- R207 DUP13: R194 with n = 13. -/
def execDup13 (s : State) : Result := dup 13 s

/-- R208 DUP14: R194 with n = 14. -/
def execDup14 (s : State) : Result := dup 14 s

/-- R209 DUP15: R194 with n = 15. -/
def execDup15 (s : State) : Result := dup 15 s

/-- R210 DUP16: R194 with n = 16. -/
def execDup16 (s : State) : Result := dup 16 s

/-- R212 SWAP1: R211 with n = 1. -/
def execSwap1 (s : State) : Result := swap 1 s

/-- R213 SWAP2: R211 with n = 2. -/
def execSwap2 (s : State) : Result := swap 2 s

/-- R214 SWAP3: R211 with n = 3. -/
def execSwap3 (s : State) : Result := swap 3 s

/-- R215 SWAP4: R211 with n = 4. -/
def execSwap4 (s : State) : Result := swap 4 s

/-- R216 SWAP5: R211 with n = 5. -/
def execSwap5 (s : State) : Result := swap 5 s

/-- R217 SWAP6: R211 with n = 6. -/
def execSwap6 (s : State) : Result := swap 6 s

/-- R218 SWAP7: R211 with n = 7. -/
def execSwap7 (s : State) : Result := swap 7 s

/-- R219 SWAP8: R211 with n = 8. -/
def execSwap8 (s : State) : Result := swap 8 s

/-- R220 SWAP9: R211 with n = 9. -/
def execSwap9 (s : State) : Result := swap 9 s

/-- R221 SWAP10: R211 with n = 10. -/
def execSwap10 (s : State) : Result := swap 10 s

/-- R222 SWAP11: R211 with n = 11. -/
def execSwap11 (s : State) : Result := swap 11 s

/-- R223 SWAP12: R211 with n = 12. -/
def execSwap12 (s : State) : Result := swap 12 s

/-- R224 SWAP13: R211 with n = 13. -/
def execSwap13 (s : State) : Result := swap 13 s

/-- R225 SWAP14: R211 with n = 14. -/
def execSwap14 (s : State) : Result := swap 14 s

/-- R226 SWAP15: R211 with n = 15. -/
def execSwap15 (s : State) : Result := swap 15 s

/-- R227 SWAP16: R211 with n = 16. -/
def execSwap16 (s : State) : Result := swap 16 s

end Sys2Proof.Machine
end

