-- ==== Sys2Proof/Machine/Trap.lean ====
section
/-! DEFINITION. The 149 trap rows (40_dispatch.md R106, 30_encoding.md R87): the opcode byte dispatched is handed to the host, the context unchanged.
A definition each, so that one can be mended without the others. -/

namespace Sys2Proof.Machine

/-- R106 TRAP_0x0C: hand the opcode byte of this row, 0x0C in the table, to the host. -/
def execTrap0x0C (s : State) : Result := trapRow 0x0C s

/-- R106 TRAP_0x0D: hand the opcode byte of this row, 0x0D in the table, to the host. -/
def execTrap0x0D (s : State) : Result := trapRow 0x0D s

/-- R106 TRAP_0x0E: hand the opcode byte of this row, 0x0E in the table, to the host. -/
def execTrap0x0E (s : State) : Result := trapRow 0x0E s

/-- R106 TRAP_0x0F: hand the opcode byte of this row, 0x0F in the table, to the host. -/
def execTrap0x0F (s : State) : Result := trapRow 0x0F s

/-- R106 TRAP_0x1E: hand the opcode byte of this row, 0x1E in the table, to the host. -/
def execTrap0x1E (s : State) : Result := trapRow 0x1E s

/-- R106 TRAP_0x1F: hand the opcode byte of this row, 0x1F in the table, to the host. -/
def execTrap0x1F (s : State) : Result := trapRow 0x1F s

/-- R106 TRAP_0x20: hand the opcode byte of this row, 0x20 in the table, to the host. -/
def execTrap0x20 (s : State) : Result := trapRow 0x20 s

/-- R106 TRAP_0x21: hand the opcode byte of this row, 0x21 in the table, to the host. -/
def execTrap0x21 (s : State) : Result := trapRow 0x21 s

/-- R106 TRAP_0x22: hand the opcode byte of this row, 0x22 in the table, to the host. -/
def execTrap0x22 (s : State) : Result := trapRow 0x22 s

/-- R106 TRAP_0x23: hand the opcode byte of this row, 0x23 in the table, to the host. -/
def execTrap0x23 (s : State) : Result := trapRow 0x23 s

/-- R106 TRAP_0x24: hand the opcode byte of this row, 0x24 in the table, to the host. -/
def execTrap0x24 (s : State) : Result := trapRow 0x24 s

/-- R106 TRAP_0x25: hand the opcode byte of this row, 0x25 in the table, to the host. -/
def execTrap0x25 (s : State) : Result := trapRow 0x25 s

/-- R106 TRAP_0x26: hand the opcode byte of this row, 0x26 in the table, to the host. -/
def execTrap0x26 (s : State) : Result := trapRow 0x26 s

/-- R106 TRAP_0x27: hand the opcode byte of this row, 0x27 in the table, to the host. -/
def execTrap0x27 (s : State) : Result := trapRow 0x27 s

/-- R106 TRAP_0x28: hand the opcode byte of this row, 0x28 in the table, to the host. -/
def execTrap0x28 (s : State) : Result := trapRow 0x28 s

/-- R106 TRAP_0x29: hand the opcode byte of this row, 0x29 in the table, to the host. -/
def execTrap0x29 (s : State) : Result := trapRow 0x29 s

/-- R106 TRAP_0x2A: hand the opcode byte of this row, 0x2A in the table, to the host. -/
def execTrap0x2A (s : State) : Result := trapRow 0x2A s

/-- R106 TRAP_0x2B: hand the opcode byte of this row, 0x2B in the table, to the host. -/
def execTrap0x2B (s : State) : Result := trapRow 0x2B s

/-- R106 TRAP_0x2C: hand the opcode byte of this row, 0x2C in the table, to the host. -/
def execTrap0x2C (s : State) : Result := trapRow 0x2C s

/-- R106 TRAP_0x2D: hand the opcode byte of this row, 0x2D in the table, to the host. -/
def execTrap0x2D (s : State) : Result := trapRow 0x2D s

/-- R106 TRAP_0x2E: hand the opcode byte of this row, 0x2E in the table, to the host. -/
def execTrap0x2E (s : State) : Result := trapRow 0x2E s

/-- R106 TRAP_0x2F: hand the opcode byte of this row, 0x2F in the table, to the host. -/
def execTrap0x2F (s : State) : Result := trapRow 0x2F s

/-- R106 TRAP_0x30: hand the opcode byte of this row, 0x30 in the table, to the host. -/
def execTrap0x30 (s : State) : Result := trapRow 0x30 s

/-- R106 TRAP_0x31: hand the opcode byte of this row, 0x31 in the table, to the host. -/
def execTrap0x31 (s : State) : Result := trapRow 0x31 s

/-- R106 TRAP_0x32: hand the opcode byte of this row, 0x32 in the table, to the host. -/
def execTrap0x32 (s : State) : Result := trapRow 0x32 s

/-- R106 TRAP_0x33: hand the opcode byte of this row, 0x33 in the table, to the host. -/
def execTrap0x33 (s : State) : Result := trapRow 0x33 s

/-- R106 TRAP_0x34: hand the opcode byte of this row, 0x34 in the table, to the host. -/
def execTrap0x34 (s : State) : Result := trapRow 0x34 s

/-- R106 TRAP_0x3A: hand the opcode byte of this row, 0x3A in the table, to the host. -/
def execTrap0x3A (s : State) : Result := trapRow 0x3A s

/-- R106 TRAP_0x3B: hand the opcode byte of this row, 0x3B in the table, to the host. -/
def execTrap0x3B (s : State) : Result := trapRow 0x3B s

/-- R106 TRAP_0x3C: hand the opcode byte of this row, 0x3C in the table, to the host. -/
def execTrap0x3C (s : State) : Result := trapRow 0x3C s

/-- R106 TRAP_0x3D: hand the opcode byte of this row, 0x3D in the table, to the host. -/
def execTrap0x3D (s : State) : Result := trapRow 0x3D s

/-- R106 TRAP_0x3E: hand the opcode byte of this row, 0x3E in the table, to the host. -/
def execTrap0x3E (s : State) : Result := trapRow 0x3E s

/-- R106 TRAP_0x3F: hand the opcode byte of this row, 0x3F in the table, to the host. -/
def execTrap0x3F (s : State) : Result := trapRow 0x3F s

/-- R106 TRAP_0x40: hand the opcode byte of this row, 0x40 in the table, to the host. -/
def execTrap0x40 (s : State) : Result := trapRow 0x40 s

/-- R106 TRAP_0x41: hand the opcode byte of this row, 0x41 in the table, to the host. -/
def execTrap0x41 (s : State) : Result := trapRow 0x41 s

/-- R106 TRAP_0x42: hand the opcode byte of this row, 0x42 in the table, to the host. -/
def execTrap0x42 (s : State) : Result := trapRow 0x42 s

/-- R106 TRAP_0x43: hand the opcode byte of this row, 0x43 in the table, to the host. -/
def execTrap0x43 (s : State) : Result := trapRow 0x43 s

/-- R106 TRAP_0x44: hand the opcode byte of this row, 0x44 in the table, to the host. -/
def execTrap0x44 (s : State) : Result := trapRow 0x44 s

/-- R106 TRAP_0x45: hand the opcode byte of this row, 0x45 in the table, to the host. -/
def execTrap0x45 (s : State) : Result := trapRow 0x45 s

/-- R106 TRAP_0x46: hand the opcode byte of this row, 0x46 in the table, to the host. -/
def execTrap0x46 (s : State) : Result := trapRow 0x46 s

/-- R106 TRAP_0x47: hand the opcode byte of this row, 0x47 in the table, to the host. -/
def execTrap0x47 (s : State) : Result := trapRow 0x47 s

/-- R106 TRAP_0x48: hand the opcode byte of this row, 0x48 in the table, to the host. -/
def execTrap0x48 (s : State) : Result := trapRow 0x48 s

/-- R106 TRAP_0x49: hand the opcode byte of this row, 0x49 in the table, to the host. -/
def execTrap0x49 (s : State) : Result := trapRow 0x49 s

/-- R106 TRAP_0x4A: hand the opcode byte of this row, 0x4A in the table, to the host. -/
def execTrap0x4A (s : State) : Result := trapRow 0x4A s

/-- R106 TRAP_0x4B: hand the opcode byte of this row, 0x4B in the table, to the host. -/
def execTrap0x4B (s : State) : Result := trapRow 0x4B s

/-- R106 TRAP_0x4C: hand the opcode byte of this row, 0x4C in the table, to the host. -/
def execTrap0x4C (s : State) : Result := trapRow 0x4C s

/-- R106 TRAP_0x4D: hand the opcode byte of this row, 0x4D in the table, to the host. -/
def execTrap0x4D (s : State) : Result := trapRow 0x4D s

/-- R106 TRAP_0x4E: hand the opcode byte of this row, 0x4E in the table, to the host. -/
def execTrap0x4E (s : State) : Result := trapRow 0x4E s

/-- R106 TRAP_0x4F: hand the opcode byte of this row, 0x4F in the table, to the host. -/
def execTrap0x4F (s : State) : Result := trapRow 0x4F s

/-- R106 TRAP_0x54: hand the opcode byte of this row, 0x54 in the table, to the host. -/
def execTrap0x54 (s : State) : Result := trapRow 0x54 s

/-- R106 TRAP_0x55: hand the opcode byte of this row, 0x55 in the table, to the host. -/
def execTrap0x55 (s : State) : Result := trapRow 0x55 s

/-- R106 TRAP_0x5A: hand the opcode byte of this row, 0x5A in the table, to the host. -/
def execTrap0x5A (s : State) : Result := trapRow 0x5A s

/-- R106 TRAP_0x5C: hand the opcode byte of this row, 0x5C in the table, to the host. -/
def execTrap0x5C (s : State) : Result := trapRow 0x5C s

/-- R106 TRAP_0x5D: hand the opcode byte of this row, 0x5D in the table, to the host. -/
def execTrap0x5D (s : State) : Result := trapRow 0x5D s

/-- R106 TRAP_0x5E: hand the opcode byte of this row, 0x5E in the table, to the host. -/
def execTrap0x5E (s : State) : Result := trapRow 0x5E s

/-- R106 TRAP_0x5F: hand the opcode byte of this row, 0x5F in the table, to the host. -/
def execTrap0x5F (s : State) : Result := trapRow 0x5F s

/-- R106 TRAP_0xA0: hand the opcode byte of this row, 0xA0 in the table, to the host. -/
def execTrap0xA0 (s : State) : Result := trapRow 0xA0 s

/-- R106 TRAP_0xA1: hand the opcode byte of this row, 0xA1 in the table, to the host. -/
def execTrap0xA1 (s : State) : Result := trapRow 0xA1 s

/-- R106 TRAP_0xA2: hand the opcode byte of this row, 0xA2 in the table, to the host. -/
def execTrap0xA2 (s : State) : Result := trapRow 0xA2 s

/-- R106 TRAP_0xA3: hand the opcode byte of this row, 0xA3 in the table, to the host. -/
def execTrap0xA3 (s : State) : Result := trapRow 0xA3 s

/-- R106 TRAP_0xA4: hand the opcode byte of this row, 0xA4 in the table, to the host. -/
def execTrap0xA4 (s : State) : Result := trapRow 0xA4 s

/-- R106 TRAP_0xA5: hand the opcode byte of this row, 0xA5 in the table, to the host. -/
def execTrap0xA5 (s : State) : Result := trapRow 0xA5 s

/-- R106 TRAP_0xA6: hand the opcode byte of this row, 0xA6 in the table, to the host. -/
def execTrap0xA6 (s : State) : Result := trapRow 0xA6 s

/-- R106 TRAP_0xA7: hand the opcode byte of this row, 0xA7 in the table, to the host. -/
def execTrap0xA7 (s : State) : Result := trapRow 0xA7 s

/-- R106 TRAP_0xA8: hand the opcode byte of this row, 0xA8 in the table, to the host. -/
def execTrap0xA8 (s : State) : Result := trapRow 0xA8 s

/-- R106 TRAP_0xA9: hand the opcode byte of this row, 0xA9 in the table, to the host. -/
def execTrap0xA9 (s : State) : Result := trapRow 0xA9 s

/-- R106 TRAP_0xAA: hand the opcode byte of this row, 0xAA in the table, to the host. -/
def execTrap0xAA (s : State) : Result := trapRow 0xAA s

/-- R106 TRAP_0xAB: hand the opcode byte of this row, 0xAB in the table, to the host. -/
def execTrap0xAB (s : State) : Result := trapRow 0xAB s

/-- R106 TRAP_0xAC: hand the opcode byte of this row, 0xAC in the table, to the host. -/
def execTrap0xAC (s : State) : Result := trapRow 0xAC s

/-- R106 TRAP_0xAD: hand the opcode byte of this row, 0xAD in the table, to the host. -/
def execTrap0xAD (s : State) : Result := trapRow 0xAD s

/-- R106 TRAP_0xAE: hand the opcode byte of this row, 0xAE in the table, to the host. -/
def execTrap0xAE (s : State) : Result := trapRow 0xAE s

/-- R106 TRAP_0xAF: hand the opcode byte of this row, 0xAF in the table, to the host. -/
def execTrap0xAF (s : State) : Result := trapRow 0xAF s

/-- R106 TRAP_0xB0: hand the opcode byte of this row, 0xB0 in the table, to the host. -/
def execTrap0xB0 (s : State) : Result := trapRow 0xB0 s

/-- R106 TRAP_0xB1: hand the opcode byte of this row, 0xB1 in the table, to the host. -/
def execTrap0xB1 (s : State) : Result := trapRow 0xB1 s

/-- R106 TRAP_0xB2: hand the opcode byte of this row, 0xB2 in the table, to the host. -/
def execTrap0xB2 (s : State) : Result := trapRow 0xB2 s

/-- R106 TRAP_0xB3: hand the opcode byte of this row, 0xB3 in the table, to the host. -/
def execTrap0xB3 (s : State) : Result := trapRow 0xB3 s

/-- R106 TRAP_0xB4: hand the opcode byte of this row, 0xB4 in the table, to the host. -/
def execTrap0xB4 (s : State) : Result := trapRow 0xB4 s

/-- R106 TRAP_0xB5: hand the opcode byte of this row, 0xB5 in the table, to the host. -/
def execTrap0xB5 (s : State) : Result := trapRow 0xB5 s

/-- R106 TRAP_0xB6: hand the opcode byte of this row, 0xB6 in the table, to the host. -/
def execTrap0xB6 (s : State) : Result := trapRow 0xB6 s

/-- R106 TRAP_0xB7: hand the opcode byte of this row, 0xB7 in the table, to the host. -/
def execTrap0xB7 (s : State) : Result := trapRow 0xB7 s

/-- R106 TRAP_0xB8: hand the opcode byte of this row, 0xB8 in the table, to the host. -/
def execTrap0xB8 (s : State) : Result := trapRow 0xB8 s

/-- R106 TRAP_0xB9: hand the opcode byte of this row, 0xB9 in the table, to the host. -/
def execTrap0xB9 (s : State) : Result := trapRow 0xB9 s

/-- R106 TRAP_0xBA: hand the opcode byte of this row, 0xBA in the table, to the host. -/
def execTrap0xBA (s : State) : Result := trapRow 0xBA s

/-- R106 TRAP_0xBB: hand the opcode byte of this row, 0xBB in the table, to the host. -/
def execTrap0xBB (s : State) : Result := trapRow 0xBB s

/-- R106 TRAP_0xBC: hand the opcode byte of this row, 0xBC in the table, to the host. -/
def execTrap0xBC (s : State) : Result := trapRow 0xBC s

/-- R106 TRAP_0xBD: hand the opcode byte of this row, 0xBD in the table, to the host. -/
def execTrap0xBD (s : State) : Result := trapRow 0xBD s

/-- R106 TRAP_0xBE: hand the opcode byte of this row, 0xBE in the table, to the host. -/
def execTrap0xBE (s : State) : Result := trapRow 0xBE s

/-- R106 TRAP_0xBF: hand the opcode byte of this row, 0xBF in the table, to the host. -/
def execTrap0xBF (s : State) : Result := trapRow 0xBF s

/-- R106 TRAP_0xC0: hand the opcode byte of this row, 0xC0 in the table, to the host. -/
def execTrap0xC0 (s : State) : Result := trapRow 0xC0 s

/-- R106 TRAP_0xC1: hand the opcode byte of this row, 0xC1 in the table, to the host. -/
def execTrap0xC1 (s : State) : Result := trapRow 0xC1 s

/-- R106 TRAP_0xC2: hand the opcode byte of this row, 0xC2 in the table, to the host. -/
def execTrap0xC2 (s : State) : Result := trapRow 0xC2 s

/-- R106 TRAP_0xC3: hand the opcode byte of this row, 0xC3 in the table, to the host. -/
def execTrap0xC3 (s : State) : Result := trapRow 0xC3 s

/-- R106 TRAP_0xC4: hand the opcode byte of this row, 0xC4 in the table, to the host. -/
def execTrap0xC4 (s : State) : Result := trapRow 0xC4 s

/-- R106 TRAP_0xC5: hand the opcode byte of this row, 0xC5 in the table, to the host. -/
def execTrap0xC5 (s : State) : Result := trapRow 0xC5 s

/-- R106 TRAP_0xC6: hand the opcode byte of this row, 0xC6 in the table, to the host. -/
def execTrap0xC6 (s : State) : Result := trapRow 0xC6 s

/-- R106 TRAP_0xC7: hand the opcode byte of this row, 0xC7 in the table, to the host. -/
def execTrap0xC7 (s : State) : Result := trapRow 0xC7 s

/-- R106 TRAP_0xC8: hand the opcode byte of this row, 0xC8 in the table, to the host. -/
def execTrap0xC8 (s : State) : Result := trapRow 0xC8 s

/-- R106 TRAP_0xC9: hand the opcode byte of this row, 0xC9 in the table, to the host. -/
def execTrap0xC9 (s : State) : Result := trapRow 0xC9 s

/-- R106 TRAP_0xCA: hand the opcode byte of this row, 0xCA in the table, to the host. -/
def execTrap0xCA (s : State) : Result := trapRow 0xCA s

/-- R106 TRAP_0xCB: hand the opcode byte of this row, 0xCB in the table, to the host. -/
def execTrap0xCB (s : State) : Result := trapRow 0xCB s

/-- R106 TRAP_0xCC: hand the opcode byte of this row, 0xCC in the table, to the host. -/
def execTrap0xCC (s : State) : Result := trapRow 0xCC s

/-- R106 TRAP_0xCD: hand the opcode byte of this row, 0xCD in the table, to the host. -/
def execTrap0xCD (s : State) : Result := trapRow 0xCD s

/-- R106 TRAP_0xCE: hand the opcode byte of this row, 0xCE in the table, to the host. -/
def execTrap0xCE (s : State) : Result := trapRow 0xCE s

/-- R106 TRAP_0xCF: hand the opcode byte of this row, 0xCF in the table, to the host. -/
def execTrap0xCF (s : State) : Result := trapRow 0xCF s

/-- R106 TRAP_0xD0: hand the opcode byte of this row, 0xD0 in the table, to the host. -/
def execTrap0xD0 (s : State) : Result := trapRow 0xD0 s

/-- R106 TRAP_0xD1: hand the opcode byte of this row, 0xD1 in the table, to the host. -/
def execTrap0xD1 (s : State) : Result := trapRow 0xD1 s

/-- R106 TRAP_0xD2: hand the opcode byte of this row, 0xD2 in the table, to the host. -/
def execTrap0xD2 (s : State) : Result := trapRow 0xD2 s

/-- R106 TRAP_0xD3: hand the opcode byte of this row, 0xD3 in the table, to the host. -/
def execTrap0xD3 (s : State) : Result := trapRow 0xD3 s

/-- R106 TRAP_0xD4: hand the opcode byte of this row, 0xD4 in the table, to the host. -/
def execTrap0xD4 (s : State) : Result := trapRow 0xD4 s

/-- R106 TRAP_0xD5: hand the opcode byte of this row, 0xD5 in the table, to the host. -/
def execTrap0xD5 (s : State) : Result := trapRow 0xD5 s

/-- R106 TRAP_0xD6: hand the opcode byte of this row, 0xD6 in the table, to the host. -/
def execTrap0xD6 (s : State) : Result := trapRow 0xD6 s

/-- R106 TRAP_0xD7: hand the opcode byte of this row, 0xD7 in the table, to the host. -/
def execTrap0xD7 (s : State) : Result := trapRow 0xD7 s

/-- R106 TRAP_0xD8: hand the opcode byte of this row, 0xD8 in the table, to the host. -/
def execTrap0xD8 (s : State) : Result := trapRow 0xD8 s

/-- R106 TRAP_0xD9: hand the opcode byte of this row, 0xD9 in the table, to the host. -/
def execTrap0xD9 (s : State) : Result := trapRow 0xD9 s

/-- R106 TRAP_0xDA: hand the opcode byte of this row, 0xDA in the table, to the host. -/
def execTrap0xDA (s : State) : Result := trapRow 0xDA s

/-- R106 TRAP_0xDB: hand the opcode byte of this row, 0xDB in the table, to the host. -/
def execTrap0xDB (s : State) : Result := trapRow 0xDB s

/-- R106 TRAP_0xDC: hand the opcode byte of this row, 0xDC in the table, to the host. -/
def execTrap0xDC (s : State) : Result := trapRow 0xDC s

/-- R106 TRAP_0xDD: hand the opcode byte of this row, 0xDD in the table, to the host. -/
def execTrap0xDD (s : State) : Result := trapRow 0xDD s

/-- R106 TRAP_0xDE: hand the opcode byte of this row, 0xDE in the table, to the host. -/
def execTrap0xDE (s : State) : Result := trapRow 0xDE s

/-- R106 TRAP_0xDF: hand the opcode byte of this row, 0xDF in the table, to the host. -/
def execTrap0xDF (s : State) : Result := trapRow 0xDF s

/-- R106 TRAP_0xE0: hand the opcode byte of this row, 0xE0 in the table, to the host. -/
def execTrap0xE0 (s : State) : Result := trapRow 0xE0 s

/-- R106 TRAP_0xE1: hand the opcode byte of this row, 0xE1 in the table, to the host. -/
def execTrap0xE1 (s : State) : Result := trapRow 0xE1 s

/-- R106 TRAP_0xE2: hand the opcode byte of this row, 0xE2 in the table, to the host. -/
def execTrap0xE2 (s : State) : Result := trapRow 0xE2 s

/-- R106 TRAP_0xE3: hand the opcode byte of this row, 0xE3 in the table, to the host. -/
def execTrap0xE3 (s : State) : Result := trapRow 0xE3 s

/-- R106 TRAP_0xE4: hand the opcode byte of this row, 0xE4 in the table, to the host. -/
def execTrap0xE4 (s : State) : Result := trapRow 0xE4 s

/-- R106 TRAP_0xE5: hand the opcode byte of this row, 0xE5 in the table, to the host. -/
def execTrap0xE5 (s : State) : Result := trapRow 0xE5 s

/-- R106 TRAP_0xE6: hand the opcode byte of this row, 0xE6 in the table, to the host. -/
def execTrap0xE6 (s : State) : Result := trapRow 0xE6 s

/-- R106 TRAP_0xE7: hand the opcode byte of this row, 0xE7 in the table, to the host. -/
def execTrap0xE7 (s : State) : Result := trapRow 0xE7 s

/-- R106 TRAP_0xE8: hand the opcode byte of this row, 0xE8 in the table, to the host. -/
def execTrap0xE8 (s : State) : Result := trapRow 0xE8 s

/-- R106 TRAP_0xE9: hand the opcode byte of this row, 0xE9 in the table, to the host. -/
def execTrap0xE9 (s : State) : Result := trapRow 0xE9 s

/-- R106 TRAP_0xEA: hand the opcode byte of this row, 0xEA in the table, to the host. -/
def execTrap0xEA (s : State) : Result := trapRow 0xEA s

/-- R106 TRAP_0xEB: hand the opcode byte of this row, 0xEB in the table, to the host. -/
def execTrap0xEB (s : State) : Result := trapRow 0xEB s

/-- R106 TRAP_0xEC: hand the opcode byte of this row, 0xEC in the table, to the host. -/
def execTrap0xEC (s : State) : Result := trapRow 0xEC s

/-- R106 TRAP_0xED: hand the opcode byte of this row, 0xED in the table, to the host. -/
def execTrap0xED (s : State) : Result := trapRow 0xED s

/-- R106 TRAP_0xEE: hand the opcode byte of this row, 0xEE in the table, to the host. -/
def execTrap0xEE (s : State) : Result := trapRow 0xEE s

/-- R106 TRAP_0xEF: hand the opcode byte of this row, 0xEF in the table, to the host. -/
def execTrap0xEF (s : State) : Result := trapRow 0xEF s

/-- R106 TRAP_0xF0: hand the opcode byte of this row, 0xF0 in the table, to the host. -/
def execTrap0xF0 (s : State) : Result := trapRow 0xF0 s

/-- R106 TRAP_0xF1: hand the opcode byte of this row, 0xF1 in the table, to the host. -/
def execTrap0xF1 (s : State) : Result := trapRow 0xF1 s

/-- R106 TRAP_0xF2: hand the opcode byte of this row, 0xF2 in the table, to the host. -/
def execTrap0xF2 (s : State) : Result := trapRow 0xF2 s

/-- R106 TRAP_0xF4: hand the opcode byte of this row, 0xF4 in the table, to the host. -/
def execTrap0xF4 (s : State) : Result := trapRow 0xF4 s

/-- R106 TRAP_0xF5: hand the opcode byte of this row, 0xF5 in the table, to the host. -/
def execTrap0xF5 (s : State) : Result := trapRow 0xF5 s

/-- R106 TRAP_0xF6: hand the opcode byte of this row, 0xF6 in the table, to the host. -/
def execTrap0xF6 (s : State) : Result := trapRow 0xF6 s

/-- R106 TRAP_0xF7: hand the opcode byte of this row, 0xF7 in the table, to the host. -/
def execTrap0xF7 (s : State) : Result := trapRow 0xF7 s

/-- R106 TRAP_0xF8: hand the opcode byte of this row, 0xF8 in the table, to the host. -/
def execTrap0xF8 (s : State) : Result := trapRow 0xF8 s

/-- R106 TRAP_0xF9: hand the opcode byte of this row, 0xF9 in the table, to the host. -/
def execTrap0xF9 (s : State) : Result := trapRow 0xF9 s

/-- R106 TRAP_0xFA: hand the opcode byte of this row, 0xFA in the table, to the host. -/
def execTrap0xFA (s : State) : Result := trapRow 0xFA s

/-- R106 TRAP_0xFB: hand the opcode byte of this row, 0xFB in the table, to the host. -/
def execTrap0xFB (s : State) : Result := trapRow 0xFB s

/-- R106 TRAP_0xFC: hand the opcode byte of this row, 0xFC in the table, to the host. -/
def execTrap0xFC (s : State) : Result := trapRow 0xFC s

/-- R106 TRAP_0xFF: hand the opcode byte of this row, 0xFF in the table, to the host. -/
def execTrap0xFF (s : State) : Result := trapRow 0xFF s

end Sys2Proof.Machine
end

