-- ==== Sys2Proof/Machine/Dispatch.lean ====
section
/-! DEFINITION. Dispatch (40_dispatch.md R101): the handler is selected by the instruction alone, one arm per constructor of Instr. -/

namespace Sys2Proof.Machine

def exec (i : Instr) (s : State) : Host.Outcome State Fault Refusal :=
  match i with
  | .stop => Sys2Proof.Machine.execStop s
  | .add => Sys2Proof.Machine.execAdd s
  | .mul => Sys2Proof.Machine.execMul s
  | .sub => Sys2Proof.Machine.execSub s
  | .div => Sys2Proof.Machine.execDiv s
  | .sdiv => Sys2Proof.Machine.execSdiv s
  | .mod => Sys2Proof.Machine.execMod s
  | .smod => Sys2Proof.Machine.execSmod s
  | .addmod => Sys2Proof.Machine.execAddmod s
  | .mulmod => Sys2Proof.Machine.execMulmod s
  | .exp => Sys2Proof.Machine.execExp s
  | .signextend => Sys2Proof.Machine.execSignextend s
  | .trap0x0C => Sys2Proof.Machine.execTrap0x0C s
  | .trap0x0D => Sys2Proof.Machine.execTrap0x0D s
  | .trap0x0E => Sys2Proof.Machine.execTrap0x0E s
  | .trap0x0F => Sys2Proof.Machine.execTrap0x0F s
  | .lt => Sys2Proof.Machine.execLt s
  | .gt => Sys2Proof.Machine.execGt s
  | .slt => Sys2Proof.Machine.execSlt s
  | .sgt => Sys2Proof.Machine.execSgt s
  | .eq => Sys2Proof.Machine.execEq s
  | .iszero => Sys2Proof.Machine.execIszero s
  | .and => Sys2Proof.Machine.execAnd s
  | .or => Sys2Proof.Machine.execOr s
  | .xor => Sys2Proof.Machine.execXor s
  | .not => Sys2Proof.Machine.execNot s
  | .byte => Sys2Proof.Machine.execByte s
  | .shl => Sys2Proof.Machine.execShl s
  | .shr => Sys2Proof.Machine.execShr s
  | .sar => Sys2Proof.Machine.execSar s
  | .trap0x1E => Sys2Proof.Machine.execTrap0x1E s
  | .trap0x1F => Sys2Proof.Machine.execTrap0x1F s
  | .trap0x20 => Sys2Proof.Machine.execTrap0x20 s
  | .trap0x21 => Sys2Proof.Machine.execTrap0x21 s
  | .trap0x22 => Sys2Proof.Machine.execTrap0x22 s
  | .trap0x23 => Sys2Proof.Machine.execTrap0x23 s
  | .trap0x24 => Sys2Proof.Machine.execTrap0x24 s
  | .trap0x25 => Sys2Proof.Machine.execTrap0x25 s
  | .trap0x26 => Sys2Proof.Machine.execTrap0x26 s
  | .trap0x27 => Sys2Proof.Machine.execTrap0x27 s
  | .trap0x28 => Sys2Proof.Machine.execTrap0x28 s
  | .trap0x29 => Sys2Proof.Machine.execTrap0x29 s
  | .trap0x2A => Sys2Proof.Machine.execTrap0x2A s
  | .trap0x2B => Sys2Proof.Machine.execTrap0x2B s
  | .trap0x2C => Sys2Proof.Machine.execTrap0x2C s
  | .trap0x2D => Sys2Proof.Machine.execTrap0x2D s
  | .trap0x2E => Sys2Proof.Machine.execTrap0x2E s
  | .trap0x2F => Sys2Proof.Machine.execTrap0x2F s
  | .trap0x30 => Sys2Proof.Machine.execTrap0x30 s
  | .trap0x31 => Sys2Proof.Machine.execTrap0x31 s
  | .trap0x32 => Sys2Proof.Machine.execTrap0x32 s
  | .trap0x33 => Sys2Proof.Machine.execTrap0x33 s
  | .trap0x34 => Sys2Proof.Machine.execTrap0x34 s
  | .calldataload => Sys2Proof.Machine.execCalldataload s
  | .calldatasize => Sys2Proof.Machine.execCalldatasize s
  | .calldatacopy => Sys2Proof.Machine.execCalldatacopy s
  | .codesize => Sys2Proof.Machine.execCodesize s
  | .codecopy => Sys2Proof.Machine.execCodecopy s
  | .trap0x3A => Sys2Proof.Machine.execTrap0x3A s
  | .trap0x3B => Sys2Proof.Machine.execTrap0x3B s
  | .trap0x3C => Sys2Proof.Machine.execTrap0x3C s
  | .trap0x3D => Sys2Proof.Machine.execTrap0x3D s
  | .trap0x3E => Sys2Proof.Machine.execTrap0x3E s
  | .trap0x3F => Sys2Proof.Machine.execTrap0x3F s
  | .trap0x40 => Sys2Proof.Machine.execTrap0x40 s
  | .trap0x41 => Sys2Proof.Machine.execTrap0x41 s
  | .trap0x42 => Sys2Proof.Machine.execTrap0x42 s
  | .trap0x43 => Sys2Proof.Machine.execTrap0x43 s
  | .trap0x44 => Sys2Proof.Machine.execTrap0x44 s
  | .trap0x45 => Sys2Proof.Machine.execTrap0x45 s
  | .trap0x46 => Sys2Proof.Machine.execTrap0x46 s
  | .trap0x47 => Sys2Proof.Machine.execTrap0x47 s
  | .trap0x48 => Sys2Proof.Machine.execTrap0x48 s
  | .trap0x49 => Sys2Proof.Machine.execTrap0x49 s
  | .trap0x4A => Sys2Proof.Machine.execTrap0x4A s
  | .trap0x4B => Sys2Proof.Machine.execTrap0x4B s
  | .trap0x4C => Sys2Proof.Machine.execTrap0x4C s
  | .trap0x4D => Sys2Proof.Machine.execTrap0x4D s
  | .trap0x4E => Sys2Proof.Machine.execTrap0x4E s
  | .trap0x4F => Sys2Proof.Machine.execTrap0x4F s
  | .pop => Sys2Proof.Machine.execPop s
  | .mload => Sys2Proof.Machine.execMload s
  | .mstore => Sys2Proof.Machine.execMstore s
  | .mstore8 => Sys2Proof.Machine.execMstore8 s
  | .trap0x54 => Sys2Proof.Machine.execTrap0x54 s
  | .trap0x55 => Sys2Proof.Machine.execTrap0x55 s
  | .jump => Sys2Proof.Machine.execJump s
  | .jumpi => Sys2Proof.Machine.execJumpi s
  | .pc => Sys2Proof.Machine.execPc s
  | .msize => Sys2Proof.Machine.execMsize s
  | .trap0x5A => Sys2Proof.Machine.execTrap0x5A s
  | .jumpdest => Sys2Proof.Machine.execJumpdest s
  | .trap0x5C => Sys2Proof.Machine.execTrap0x5C s
  | .trap0x5D => Sys2Proof.Machine.execTrap0x5D s
  | .trap0x5E => Sys2Proof.Machine.execTrap0x5E s
  | .trap0x5F => Sys2Proof.Machine.execTrap0x5F s
  | .push1 imm => Sys2Proof.Machine.execPush1 imm s
  | .push2 imm => Sys2Proof.Machine.execPush2 imm s
  | .push3 imm => Sys2Proof.Machine.execPush3 imm s
  | .push4 imm => Sys2Proof.Machine.execPush4 imm s
  | .push5 imm => Sys2Proof.Machine.execPush5 imm s
  | .push6 imm => Sys2Proof.Machine.execPush6 imm s
  | .push7 imm => Sys2Proof.Machine.execPush7 imm s
  | .push8 imm => Sys2Proof.Machine.execPush8 imm s
  | .push9 imm => Sys2Proof.Machine.execPush9 imm s
  | .push10 imm => Sys2Proof.Machine.execPush10 imm s
  | .push11 imm => Sys2Proof.Machine.execPush11 imm s
  | .push12 imm => Sys2Proof.Machine.execPush12 imm s
  | .push13 imm => Sys2Proof.Machine.execPush13 imm s
  | .push14 imm => Sys2Proof.Machine.execPush14 imm s
  | .push15 imm => Sys2Proof.Machine.execPush15 imm s
  | .push16 imm => Sys2Proof.Machine.execPush16 imm s
  | .push17 imm => Sys2Proof.Machine.execPush17 imm s
  | .push18 imm => Sys2Proof.Machine.execPush18 imm s
  | .push19 imm => Sys2Proof.Machine.execPush19 imm s
  | .push20 imm => Sys2Proof.Machine.execPush20 imm s
  | .push21 imm => Sys2Proof.Machine.execPush21 imm s
  | .push22 imm => Sys2Proof.Machine.execPush22 imm s
  | .push23 imm => Sys2Proof.Machine.execPush23 imm s
  | .push24 imm => Sys2Proof.Machine.execPush24 imm s
  | .push25 imm => Sys2Proof.Machine.execPush25 imm s
  | .push26 imm => Sys2Proof.Machine.execPush26 imm s
  | .push27 imm => Sys2Proof.Machine.execPush27 imm s
  | .push28 imm => Sys2Proof.Machine.execPush28 imm s
  | .push29 imm => Sys2Proof.Machine.execPush29 imm s
  | .push30 imm => Sys2Proof.Machine.execPush30 imm s
  | .push31 imm => Sys2Proof.Machine.execPush31 imm s
  | .push32 imm => Sys2Proof.Machine.execPush32 imm s
  | .dup1 => Sys2Proof.Machine.execDup1 s
  | .dup2 => Sys2Proof.Machine.execDup2 s
  | .dup3 => Sys2Proof.Machine.execDup3 s
  | .dup4 => Sys2Proof.Machine.execDup4 s
  | .dup5 => Sys2Proof.Machine.execDup5 s
  | .dup6 => Sys2Proof.Machine.execDup6 s
  | .dup7 => Sys2Proof.Machine.execDup7 s
  | .dup8 => Sys2Proof.Machine.execDup8 s
  | .dup9 => Sys2Proof.Machine.execDup9 s
  | .dup10 => Sys2Proof.Machine.execDup10 s
  | .dup11 => Sys2Proof.Machine.execDup11 s
  | .dup12 => Sys2Proof.Machine.execDup12 s
  | .dup13 => Sys2Proof.Machine.execDup13 s
  | .dup14 => Sys2Proof.Machine.execDup14 s
  | .dup15 => Sys2Proof.Machine.execDup15 s
  | .dup16 => Sys2Proof.Machine.execDup16 s
  | .swap1 => Sys2Proof.Machine.execSwap1 s
  | .swap2 => Sys2Proof.Machine.execSwap2 s
  | .swap3 => Sys2Proof.Machine.execSwap3 s
  | .swap4 => Sys2Proof.Machine.execSwap4 s
  | .swap5 => Sys2Proof.Machine.execSwap5 s
  | .swap6 => Sys2Proof.Machine.execSwap6 s
  | .swap7 => Sys2Proof.Machine.execSwap7 s
  | .swap8 => Sys2Proof.Machine.execSwap8 s
  | .swap9 => Sys2Proof.Machine.execSwap9 s
  | .swap10 => Sys2Proof.Machine.execSwap10 s
  | .swap11 => Sys2Proof.Machine.execSwap11 s
  | .swap12 => Sys2Proof.Machine.execSwap12 s
  | .swap13 => Sys2Proof.Machine.execSwap13 s
  | .swap14 => Sys2Proof.Machine.execSwap14 s
  | .swap15 => Sys2Proof.Machine.execSwap15 s
  | .swap16 => Sys2Proof.Machine.execSwap16 s
  | .trap0xA0 => Sys2Proof.Machine.execTrap0xA0 s
  | .trap0xA1 => Sys2Proof.Machine.execTrap0xA1 s
  | .trap0xA2 => Sys2Proof.Machine.execTrap0xA2 s
  | .trap0xA3 => Sys2Proof.Machine.execTrap0xA3 s
  | .trap0xA4 => Sys2Proof.Machine.execTrap0xA4 s
  | .trap0xA5 => Sys2Proof.Machine.execTrap0xA5 s
  | .trap0xA6 => Sys2Proof.Machine.execTrap0xA6 s
  | .trap0xA7 => Sys2Proof.Machine.execTrap0xA7 s
  | .trap0xA8 => Sys2Proof.Machine.execTrap0xA8 s
  | .trap0xA9 => Sys2Proof.Machine.execTrap0xA9 s
  | .trap0xAA => Sys2Proof.Machine.execTrap0xAA s
  | .trap0xAB => Sys2Proof.Machine.execTrap0xAB s
  | .trap0xAC => Sys2Proof.Machine.execTrap0xAC s
  | .trap0xAD => Sys2Proof.Machine.execTrap0xAD s
  | .trap0xAE => Sys2Proof.Machine.execTrap0xAE s
  | .trap0xAF => Sys2Proof.Machine.execTrap0xAF s
  | .trap0xB0 => Sys2Proof.Machine.execTrap0xB0 s
  | .trap0xB1 => Sys2Proof.Machine.execTrap0xB1 s
  | .trap0xB2 => Sys2Proof.Machine.execTrap0xB2 s
  | .trap0xB3 => Sys2Proof.Machine.execTrap0xB3 s
  | .trap0xB4 => Sys2Proof.Machine.execTrap0xB4 s
  | .trap0xB5 => Sys2Proof.Machine.execTrap0xB5 s
  | .trap0xB6 => Sys2Proof.Machine.execTrap0xB6 s
  | .trap0xB7 => Sys2Proof.Machine.execTrap0xB7 s
  | .trap0xB8 => Sys2Proof.Machine.execTrap0xB8 s
  | .trap0xB9 => Sys2Proof.Machine.execTrap0xB9 s
  | .trap0xBA => Sys2Proof.Machine.execTrap0xBA s
  | .trap0xBB => Sys2Proof.Machine.execTrap0xBB s
  | .trap0xBC => Sys2Proof.Machine.execTrap0xBC s
  | .trap0xBD => Sys2Proof.Machine.execTrap0xBD s
  | .trap0xBE => Sys2Proof.Machine.execTrap0xBE s
  | .trap0xBF => Sys2Proof.Machine.execTrap0xBF s
  | .trap0xC0 => Sys2Proof.Machine.execTrap0xC0 s
  | .trap0xC1 => Sys2Proof.Machine.execTrap0xC1 s
  | .trap0xC2 => Sys2Proof.Machine.execTrap0xC2 s
  | .trap0xC3 => Sys2Proof.Machine.execTrap0xC3 s
  | .trap0xC4 => Sys2Proof.Machine.execTrap0xC4 s
  | .trap0xC5 => Sys2Proof.Machine.execTrap0xC5 s
  | .trap0xC6 => Sys2Proof.Machine.execTrap0xC6 s
  | .trap0xC7 => Sys2Proof.Machine.execTrap0xC7 s
  | .trap0xC8 => Sys2Proof.Machine.execTrap0xC8 s
  | .trap0xC9 => Sys2Proof.Machine.execTrap0xC9 s
  | .trap0xCA => Sys2Proof.Machine.execTrap0xCA s
  | .trap0xCB => Sys2Proof.Machine.execTrap0xCB s
  | .trap0xCC => Sys2Proof.Machine.execTrap0xCC s
  | .trap0xCD => Sys2Proof.Machine.execTrap0xCD s
  | .trap0xCE => Sys2Proof.Machine.execTrap0xCE s
  | .trap0xCF => Sys2Proof.Machine.execTrap0xCF s
  | .trap0xD0 => Sys2Proof.Machine.execTrap0xD0 s
  | .trap0xD1 => Sys2Proof.Machine.execTrap0xD1 s
  | .trap0xD2 => Sys2Proof.Machine.execTrap0xD2 s
  | .trap0xD3 => Sys2Proof.Machine.execTrap0xD3 s
  | .trap0xD4 => Sys2Proof.Machine.execTrap0xD4 s
  | .trap0xD5 => Sys2Proof.Machine.execTrap0xD5 s
  | .trap0xD6 => Sys2Proof.Machine.execTrap0xD6 s
  | .trap0xD7 => Sys2Proof.Machine.execTrap0xD7 s
  | .trap0xD8 => Sys2Proof.Machine.execTrap0xD8 s
  | .trap0xD9 => Sys2Proof.Machine.execTrap0xD9 s
  | .trap0xDA => Sys2Proof.Machine.execTrap0xDA s
  | .trap0xDB => Sys2Proof.Machine.execTrap0xDB s
  | .trap0xDC => Sys2Proof.Machine.execTrap0xDC s
  | .trap0xDD => Sys2Proof.Machine.execTrap0xDD s
  | .trap0xDE => Sys2Proof.Machine.execTrap0xDE s
  | .trap0xDF => Sys2Proof.Machine.execTrap0xDF s
  | .trap0xE0 => Sys2Proof.Machine.execTrap0xE0 s
  | .trap0xE1 => Sys2Proof.Machine.execTrap0xE1 s
  | .trap0xE2 => Sys2Proof.Machine.execTrap0xE2 s
  | .trap0xE3 => Sys2Proof.Machine.execTrap0xE3 s
  | .trap0xE4 => Sys2Proof.Machine.execTrap0xE4 s
  | .trap0xE5 => Sys2Proof.Machine.execTrap0xE5 s
  | .trap0xE6 => Sys2Proof.Machine.execTrap0xE6 s
  | .trap0xE7 => Sys2Proof.Machine.execTrap0xE7 s
  | .trap0xE8 => Sys2Proof.Machine.execTrap0xE8 s
  | .trap0xE9 => Sys2Proof.Machine.execTrap0xE9 s
  | .trap0xEA => Sys2Proof.Machine.execTrap0xEA s
  | .trap0xEB => Sys2Proof.Machine.execTrap0xEB s
  | .trap0xEC => Sys2Proof.Machine.execTrap0xEC s
  | .trap0xED => Sys2Proof.Machine.execTrap0xED s
  | .trap0xEE => Sys2Proof.Machine.execTrap0xEE s
  | .trap0xEF => Sys2Proof.Machine.execTrap0xEF s
  | .trap0xF0 => Sys2Proof.Machine.execTrap0xF0 s
  | .trap0xF1 => Sys2Proof.Machine.execTrap0xF1 s
  | .trap0xF2 => Sys2Proof.Machine.execTrap0xF2 s
  | .return_ => Sys2Proof.Machine.execReturn s
  | .trap0xF4 => Sys2Proof.Machine.execTrap0xF4 s
  | .trap0xF5 => Sys2Proof.Machine.execTrap0xF5 s
  | .trap0xF6 => Sys2Proof.Machine.execTrap0xF6 s
  | .trap0xF7 => Sys2Proof.Machine.execTrap0xF7 s
  | .trap0xF8 => Sys2Proof.Machine.execTrap0xF8 s
  | .trap0xF9 => Sys2Proof.Machine.execTrap0xF9 s
  | .trap0xFA => Sys2Proof.Machine.execTrap0xFA s
  | .trap0xFB => Sys2Proof.Machine.execTrap0xFB s
  | .trap0xFC => Sys2Proof.Machine.execTrap0xFC s
  | .revert => Sys2Proof.Machine.execRevert s
  | .invalid => Sys2Proof.Machine.execInvalid s
  | .trap0xFF => Sys2Proof.Machine.execTrap0xFF s

end Sys2Proof.Machine
end

