-- ==== Sys2Proof/Machine/Step.lean ====
section
/-! DEFINITION. One iteration of the run loop (40_dispatch.md R107): fetch, step, apply. The instruction is fetched by `fetchInstr` and run, with
its control effect applied, by `exec`. -/

namespace Sys2Proof.Machine

/-- A step is taken only in Running (10_state.md R34). Exited is absorbing (log 13); from Trapped only the host moves the machine (log 12). -/
def step (s : State) : Host.Outcome State Fault Refusal :=
  match s.run with
  | .running => exec (fetchInstr s) s
  | .exited _ => .next s
  | .trapped opcode => hostTrap opcode s

/-- The state with an instruction placed at the position, running, so that the next step fetches and runs it (log 23). The table's
opcode byte is renumbered by the state's OPMAP, which at reset changes nothing. -/
def State.withFetchWord (s : State) (nbits w : Nat) : State :=
  { s with code := placeCode s.code s.pc (renumber s.cfg.opmap (tableBytes nbits w)), run := .running }

end Sys2Proof.Machine
end

