-- ==== Sys2Proof/Safety.lean ====
section
/-! DEFINITION. What claims call a good state, and how a frame can end. -/

namespace Sys2Proof.Machine

/-- Under a map, the byte a fetch past the end of code reads (0x00) is STOP, as it is under the default (40_dispatch.md R109, decision D10). -/
abbrev endIsStop (m : OpMap) : Prop := decodeOpcode m 0 0 = .stop

/-- The invariants of a context: 10_state.md R21, R26 to R30 and the parameter constraints of 00_scope.md R7; `memForm` and `memInside` are the
canonical form of the model's memory (log 18). Reset has them and every step keeps them. -/
structure Inv (s : State) : Prop where
  /-- "Depth never exceeds 1024" (R21). -/
  stack : s.stack.length ≤ 1024
  /-- `mem_len` is a multiple of 32 at every step boundary (R28). -/
  granular : s.memLen % 32 = 0
  /-- `mem_len <= MEM_LIMIT` (R27). -/
  bounded : s.memLen ≤ s.cfg.memLimit
  memForm : Memory.wf s.mem
  /-- Only bytes of memory are listed (R27). -/
  memInside : ∀ c ∈ s.mem, c.1 < s.memLen
  /-- `code_len <= MAX_CODE_LEN` (R29). -/
  code : s.code.length ≤ s.cfg.maxCodeLen
  /-- `input_len <= MAX_INPUT_LEN` (R30). -/
  input : s.input.length ≤ s.cfg.maxInputLen
  /-- The position fits its register (R26), as R110 derives where 0x00, which a fetch past the end of code reads, is STOP (R109, log 9). -/
  pc : endIsStop s.cfg.opmap → s.pc < 2 ^ s.cfg.pcBits
  /-- The parameters meet the constraints of R7. -/
  cfg : s.cfg.wf

/-- The byte of memory at an address, as MemRead would give it after expansion: 0 where memory lists nothing (R27). -/
def State.byteAt (s : State) (a : Nat) : Byte := Memory.read s.mem a

/-- The frame ended in success (R33, R288). -/
def State.succeeded (s : State) : Prop := ∃ how, s.run = .exited (.succeed how)

/-- The frame ended in an error (R33, R280). -/
def State.errored (s : State) : Prop := ∃ why, s.run = .exited (.error why)

end Sys2Proof.Machine
end

