-- ==== Sys2Proof/Certificates/Slice0/Obligations.lean ====
section
/-! DEFINITION. The statements for the provers. Helper definitions stand in Sys2Proof.Claims; a statement is `Obligations.<Name>`. "Stated"
statements formalise numbered rules of the spec; the byte an instruction is encoded by is rule R86's (decision D1, log 1) and is stated apart, in
`OpcodeBytesDecode` and the two round trips. A state's parameters, OPMAP among them, are free: every statement about every state or every map `m`
holds for every opcode numbering (00_scope.md R7, log 26). -/

open Sys2Proof
open Sys2Proof.Machine

namespace Sys2Proof.Claims

/-- The state after `Continue(n)` with a new stack: position advanced, running, all else as before. -/
def done (s : State) (n : Nat) (stack : List Word) : State := { s with stack := stack, pc := s.pc + n, run := .running }

/-- The state after `Exit(Error: e)`: nothing but the run state changed. -/
def failed (s : State) (e : ErrorReason) : State := { s with run := .exited (.error e) }

/-- What no instruction changes: the two read-only buffers, the parameters and the host's answers. -/
def SameBuffers (s t : State) : Prop :=
  t.code = s.code ∧ t.input = s.input ∧ t.cfg = s.cfg ∧ t.hostAnswers = s.hostAnswers

/-- `mem_len` after an access of `n` bytes at `addr`: the smallest multiple of 32 that covers it, if that is larger (R56, R62). -/
def grown (s : State) (addr n : Nat) : Nat := if n = 0 then s.memLen else max s.memLen ((addr + n + 31) / 32 * 32)

/-- The error of an over-limit access: the parameter OVERSIZE_ERROR (R284, R286). -/
def overLimit (s : State) : ErrorReason := if s.cfg.oversizeError = .invalidRange then .invalidRange else .other ()

/-- A one-operand instruction of one byte computes `f` of the top word, underflows on the empty stack, and changes nothing else. -/
def UnaryRule (i : Instr) (f : Word → Word) : Prop :=
  (∀ m : OpMap, (encode m i).length = 1) ∧
  ∀ s : State, (s.stack.length < 1 → exec i s = .next (failed s .stackUnderflow)) ∧
    ∀ a rest, s.stack = a :: rest → s.stack.length ≤ 1024 → exec i s = .next (done s 1 (f a :: rest))

/-- A two-operand instruction of one byte computes `f` of the two top words, first popped first, underflows on fewer than two words, and changes
nothing else. -/
def BinaryRule (i : Instr) (f : Word → Word → Word) : Prop :=
  (∀ m : OpMap, (encode m i).length = 1) ∧
  ∀ s : State, (s.stack.length < 2 → exec i s = .next (failed s .stackUnderflow)) ∧
    ∀ a b rest, s.stack = a :: b :: rest → s.stack.length ≤ 1024 → exec i s = .next (done s 1 (f a b :: rest))

/-- The same with three operands. -/
def TernaryRule (i : Instr) (f : Word → Word → Word → Word) : Prop :=
  (∀ m : OpMap, (encode m i).length = 1) ∧
  ∀ s : State, (s.stack.length < 3 → exec i s = .next (failed s .stackUnderflow)) ∧
    ∀ a b n rest, s.stack = a :: b :: n :: rest → s.stack.length ≤ 1024 → exec i s = .next (done s 1 (f a b n :: rest))

/-- A one-byte instruction that pushes the word `f s` on a stack that is not full, overflows on a full one, and changes nothing else. -/
def PushRule (i : Instr) (f : State → Word) : Prop :=
  (∀ m : OpMap, (encode m i).length = 1) ∧
  ∀ s : State, (s.stack.length = 1024 → exec i s = .next (failed s .stackOverflow)) ∧
    (s.stack.length < 1024 → exec i s = .next (done s 1 (f s :: s.stack)))

/-- The word of a comparison. -/
def bit (p : Prop) [Decidable p] : Word := if p then 1 else 0

/-- A two-operand instruction that computes each of the 256 bits of its result from the bits of its operands in that place. -/
def BitwiseRule (i : Instr) (g : Bool → Bool → Bool) : Prop :=
  ∃ f : Word → Word → Word, BinaryRule i f ∧ ∀ a b : Word, ∀ j, j < 256 → (f a b).getLsbD j = g (a.getLsbD j) (b.getLsbD j)


/-- Part 1 of `pushForms`. -/
def pushForms1 : List (Nat × (Word → Instr)) :=
  [(1, .push1), (2, .push2), (3, .push3), (4, .push4), (5, .push5), (6, .push6), (7, .push7), (8, .push8),
   (9, .push9), (10, .push10), (11, .push11), (12, .push12), (13, .push13), (14, .push14), (15, .push15), (16, .push16)]

/-- Part 2 of `pushForms`. -/
def pushForms2 : List (Nat × (Word → Instr)) :=
  [(17, .push17), (18, .push18), (19, .push19), (20, .push20), (21, .push21), (22, .push22), (23, .push23), (24, .push24),
   (25, .push25), (26, .push26), (27, .push27), (28, .push28), (29, .push29), (30, .push30), (31, .push31), (32, .push32)]

/-- PUSH1 to PUSH32, each with its `k` (R161 to R193). -/
def pushForms : List (Nat × (Word → Instr)) := pushForms1 ++ pushForms2

/-- DUP1 to DUP16, each with its `n` (R194 to R210). -/
def dupForms : List (Nat × Instr) :=
  [(1, .dup1), (2, .dup2), (3, .dup3), (4, .dup4), (5, .dup5), (6, .dup6), (7, .dup7), (8, .dup8),
   (9, .dup9), (10, .dup10), (11, .dup11), (12, .dup12), (13, .dup13), (14, .dup14), (15, .dup15), (16, .dup16)]

/-- SWAP1 to SWAP16, each with its `n` (R211 to R227). -/
def swapForms : List (Nat × Instr) :=
  [(1, .swap1), (2, .swap2), (3, .swap3), (4, .swap4), (5, .swap5), (6, .swap6), (7, .swap7), (8, .swap8),
   (9, .swap9), (10, .swap10), (11, .swap11), (12, .swap12), (13, .swap13), (14, .swap14), (15, .swap15), (16, .swap16)]

/-- Part 1 of `trapForms`. -/
def trapForms1 : List (Byte × Instr) :=
  [(0x0C, .trap0x0C), (0x0D, .trap0x0D), (0x0E, .trap0x0E), (0x0F, .trap0x0F), (0x1E, .trap0x1E), (0x1F, .trap0x1F), (0x20, .trap0x20), (0x21, .trap0x21),
   (0x22, .trap0x22), (0x23, .trap0x23), (0x24, .trap0x24), (0x25, .trap0x25), (0x26, .trap0x26), (0x27, .trap0x27), (0x28, .trap0x28), (0x29, .trap0x29)]

/-- Part 2 of `trapForms`. -/
def trapForms2 : List (Byte × Instr) :=
  [(0x2A, .trap0x2A), (0x2B, .trap0x2B), (0x2C, .trap0x2C), (0x2D, .trap0x2D), (0x2E, .trap0x2E), (0x2F, .trap0x2F), (0x30, .trap0x30), (0x31, .trap0x31),
   (0x32, .trap0x32), (0x33, .trap0x33), (0x34, .trap0x34), (0x3A, .trap0x3A), (0x3B, .trap0x3B), (0x3C, .trap0x3C), (0x3D, .trap0x3D), (0x3E, .trap0x3E)]

/-- Part 3 of `trapForms`. -/
def trapForms3 : List (Byte × Instr) :=
  [(0x3F, .trap0x3F), (0x40, .trap0x40), (0x41, .trap0x41), (0x42, .trap0x42), (0x43, .trap0x43), (0x44, .trap0x44), (0x45, .trap0x45), (0x46, .trap0x46),
   (0x47, .trap0x47), (0x48, .trap0x48), (0x49, .trap0x49), (0x4A, .trap0x4A), (0x4B, .trap0x4B), (0x4C, .trap0x4C), (0x4D, .trap0x4D), (0x4E, .trap0x4E)]

/-- Part 4 of `trapForms`. -/
def trapForms4 : List (Byte × Instr) :=
  [(0x4F, .trap0x4F), (0x54, .trap0x54), (0x55, .trap0x55), (0x5A, .trap0x5A), (0x5C, .trap0x5C), (0x5D, .trap0x5D), (0x5E, .trap0x5E), (0x5F, .trap0x5F),
   (0xA0, .trap0xA0), (0xA1, .trap0xA1), (0xA2, .trap0xA2), (0xA3, .trap0xA3), (0xA4, .trap0xA4), (0xA5, .trap0xA5), (0xA6, .trap0xA6), (0xA7, .trap0xA7)]

/-- Part 5 of `trapForms`. -/
def trapForms5 : List (Byte × Instr) :=
  [(0xA8, .trap0xA8), (0xA9, .trap0xA9), (0xAA, .trap0xAA), (0xAB, .trap0xAB), (0xAC, .trap0xAC), (0xAD, .trap0xAD), (0xAE, .trap0xAE), (0xAF, .trap0xAF),
   (0xB0, .trap0xB0), (0xB1, .trap0xB1), (0xB2, .trap0xB2), (0xB3, .trap0xB3), (0xB4, .trap0xB4), (0xB5, .trap0xB5), (0xB6, .trap0xB6), (0xB7, .trap0xB7)]

/-- Part 6 of `trapForms`. -/
def trapForms6 : List (Byte × Instr) :=
  [(0xB8, .trap0xB8), (0xB9, .trap0xB9), (0xBA, .trap0xBA), (0xBB, .trap0xBB), (0xBC, .trap0xBC), (0xBD, .trap0xBD), (0xBE, .trap0xBE), (0xBF, .trap0xBF),
   (0xC0, .trap0xC0), (0xC1, .trap0xC1), (0xC2, .trap0xC2), (0xC3, .trap0xC3), (0xC4, .trap0xC4), (0xC5, .trap0xC5), (0xC6, .trap0xC6), (0xC7, .trap0xC7)]

/-- Part 7 of `trapForms`. -/
def trapForms7 : List (Byte × Instr) :=
  [(0xC8, .trap0xC8), (0xC9, .trap0xC9), (0xCA, .trap0xCA), (0xCB, .trap0xCB), (0xCC, .trap0xCC), (0xCD, .trap0xCD), (0xCE, .trap0xCE), (0xCF, .trap0xCF),
   (0xD0, .trap0xD0), (0xD1, .trap0xD1), (0xD2, .trap0xD2), (0xD3, .trap0xD3), (0xD4, .trap0xD4), (0xD5, .trap0xD5), (0xD6, .trap0xD6), (0xD7, .trap0xD7)]

/-- Part 8 of `trapForms`. -/
def trapForms8 : List (Byte × Instr) :=
  [(0xD8, .trap0xD8), (0xD9, .trap0xD9), (0xDA, .trap0xDA), (0xDB, .trap0xDB), (0xDC, .trap0xDC), (0xDD, .trap0xDD), (0xDE, .trap0xDE), (0xDF, .trap0xDF),
   (0xE0, .trap0xE0), (0xE1, .trap0xE1), (0xE2, .trap0xE2), (0xE3, .trap0xE3), (0xE4, .trap0xE4), (0xE5, .trap0xE5), (0xE6, .trap0xE6), (0xE7, .trap0xE7)]

/-- Part 9 of `trapForms`. -/
def trapForms9 : List (Byte × Instr) :=
  [(0xE8, .trap0xE8), (0xE9, .trap0xE9), (0xEA, .trap0xEA), (0xEB, .trap0xEB), (0xEC, .trap0xEC), (0xED, .trap0xED), (0xEE, .trap0xEE), (0xEF, .trap0xEF),
   (0xF0, .trap0xF0), (0xF1, .trap0xF1), (0xF2, .trap0xF2), (0xF4, .trap0xF4), (0xF5, .trap0xF5), (0xF6, .trap0xF6), (0xF7, .trap0xF7), (0xF8, .trap0xF8)]

/-- Part 10 of `trapForms`. -/
def trapForms10 : List (Byte × Instr) :=
  [(0xF9, .trap0xF9), (0xFA, .trap0xFA), (0xFB, .trap0xFB), (0xFC, .trap0xFC), (0xFF, .trap0xFF)]

/-- The 149 trap instructions, each with the opcode byte the table gives it (R87, R106). -/
def trapForms : List (Byte × Instr) := trapForms1 ++ trapForms2 ++ trapForms3 ++ trapForms4 ++ trapForms5 ++ trapForms6 ++ trapForms7 ++ trapForms8 ++ trapForms9 ++ trapForms10

/-- The stack words an instruction needs, pops and pushes: `need`, `p`, `q` of 40_dispatch.md R103 with the counts of 30_encoding.md R86. -/
def stackUse (i : Instr) : Nat × Nat × Nat :=
  match i with
  | .stop => (0, 0, 0)
  | .add => (2, 2, 1)
  | .mul => (2, 2, 1)
  | .sub => (2, 2, 1)
  | .div => (2, 2, 1)
  | .sdiv => (2, 2, 1)
  | .mod => (2, 2, 1)
  | .smod => (2, 2, 1)
  | .addmod => (3, 3, 1)
  | .mulmod => (3, 3, 1)
  | .exp => (2, 2, 1)
  | .signextend => (2, 2, 1)
  | .trap0x0C => (0, 0, 0)
  | .trap0x0D => (0, 0, 0)
  | .trap0x0E => (0, 0, 0)
  | .trap0x0F => (0, 0, 0)
  | .lt => (2, 2, 1)
  | .gt => (2, 2, 1)
  | .slt => (2, 2, 1)
  | .sgt => (2, 2, 1)
  | .eq => (2, 2, 1)
  | .iszero => (1, 1, 1)
  | .and => (2, 2, 1)
  | .or => (2, 2, 1)
  | .xor => (2, 2, 1)
  | .not => (1, 1, 1)
  | .byte => (2, 2, 1)
  | .shl => (2, 2, 1)
  | .shr => (2, 2, 1)
  | .sar => (2, 2, 1)
  | .trap0x1E => (0, 0, 0)
  | .trap0x1F => (0, 0, 0)
  | .trap0x20 => (0, 0, 0)
  | .trap0x21 => (0, 0, 0)
  | .trap0x22 => (0, 0, 0)
  | .trap0x23 => (0, 0, 0)
  | .trap0x24 => (0, 0, 0)
  | .trap0x25 => (0, 0, 0)
  | .trap0x26 => (0, 0, 0)
  | .trap0x27 => (0, 0, 0)
  | .trap0x28 => (0, 0, 0)
  | .trap0x29 => (0, 0, 0)
  | .trap0x2A => (0, 0, 0)
  | .trap0x2B => (0, 0, 0)
  | .trap0x2C => (0, 0, 0)
  | .trap0x2D => (0, 0, 0)
  | .trap0x2E => (0, 0, 0)
  | .trap0x2F => (0, 0, 0)
  | .trap0x30 => (0, 0, 0)
  | .trap0x31 => (0, 0, 0)
  | .trap0x32 => (0, 0, 0)
  | .trap0x33 => (0, 0, 0)
  | .trap0x34 => (0, 0, 0)
  | .calldataload => (1, 1, 1)
  | .calldatasize => (0, 0, 1)
  | .calldatacopy => (3, 3, 0)
  | .codesize => (0, 0, 1)
  | .codecopy => (3, 3, 0)
  | .trap0x3A => (0, 0, 0)
  | .trap0x3B => (0, 0, 0)
  | .trap0x3C => (0, 0, 0)
  | .trap0x3D => (0, 0, 0)
  | .trap0x3E => (0, 0, 0)
  | .trap0x3F => (0, 0, 0)
  | .trap0x40 => (0, 0, 0)
  | .trap0x41 => (0, 0, 0)
  | .trap0x42 => (0, 0, 0)
  | .trap0x43 => (0, 0, 0)
  | .trap0x44 => (0, 0, 0)
  | .trap0x45 => (0, 0, 0)
  | .trap0x46 => (0, 0, 0)
  | .trap0x47 => (0, 0, 0)
  | .trap0x48 => (0, 0, 0)
  | .trap0x49 => (0, 0, 0)
  | .trap0x4A => (0, 0, 0)
  | .trap0x4B => (0, 0, 0)
  | .trap0x4C => (0, 0, 0)
  | .trap0x4D => (0, 0, 0)
  | .trap0x4E => (0, 0, 0)
  | .trap0x4F => (0, 0, 0)
  | .pop => (1, 1, 0)
  | .mload => (1, 1, 1)
  | .mstore => (2, 2, 0)
  | .mstore8 => (2, 2, 0)
  | .trap0x54 => (0, 0, 0)
  | .trap0x55 => (0, 0, 0)
  | .jump => (1, 1, 0)
  | .jumpi => (2, 2, 0)
  | .pc => (0, 0, 1)
  | .msize => (0, 0, 1)
  | .trap0x5A => (0, 0, 0)
  | .jumpdest => (0, 0, 0)
  | .trap0x5C => (0, 0, 0)
  | .trap0x5D => (0, 0, 0)
  | .trap0x5E => (0, 0, 0)
  | .trap0x5F => (0, 0, 0)
  | .push1 _ => (0, 0, 1)
  | .push2 _ => (0, 0, 1)
  | .push3 _ => (0, 0, 1)
  | .push4 _ => (0, 0, 1)
  | .push5 _ => (0, 0, 1)
  | .push6 _ => (0, 0, 1)
  | .push7 _ => (0, 0, 1)
  | .push8 _ => (0, 0, 1)
  | .push9 _ => (0, 0, 1)
  | .push10 _ => (0, 0, 1)
  | .push11 _ => (0, 0, 1)
  | .push12 _ => (0, 0, 1)
  | .push13 _ => (0, 0, 1)
  | .push14 _ => (0, 0, 1)
  | .push15 _ => (0, 0, 1)
  | .push16 _ => (0, 0, 1)
  | .push17 _ => (0, 0, 1)
  | .push18 _ => (0, 0, 1)
  | .push19 _ => (0, 0, 1)
  | .push20 _ => (0, 0, 1)
  | .push21 _ => (0, 0, 1)
  | .push22 _ => (0, 0, 1)
  | .push23 _ => (0, 0, 1)
  | .push24 _ => (0, 0, 1)
  | .push25 _ => (0, 0, 1)
  | .push26 _ => (0, 0, 1)
  | .push27 _ => (0, 0, 1)
  | .push28 _ => (0, 0, 1)
  | .push29 _ => (0, 0, 1)
  | .push30 _ => (0, 0, 1)
  | .push31 _ => (0, 0, 1)
  | .push32 _ => (0, 0, 1)
  | .dup1 => (1, 0, 1)
  | .dup2 => (2, 0, 1)
  | .dup3 => (3, 0, 1)
  | .dup4 => (4, 0, 1)
  | .dup5 => (5, 0, 1)
  | .dup6 => (6, 0, 1)
  | .dup7 => (7, 0, 1)
  | .dup8 => (8, 0, 1)
  | .dup9 => (9, 0, 1)
  | .dup10 => (10, 0, 1)
  | .dup11 => (11, 0, 1)
  | .dup12 => (12, 0, 1)
  | .dup13 => (13, 0, 1)
  | .dup14 => (14, 0, 1)
  | .dup15 => (15, 0, 1)
  | .dup16 => (16, 0, 1)
  | .swap1 => (2, 0, 0)
  | .swap2 => (3, 0, 0)
  | .swap3 => (4, 0, 0)
  | .swap4 => (5, 0, 0)
  | .swap5 => (6, 0, 0)
  | .swap6 => (7, 0, 0)
  | .swap7 => (8, 0, 0)
  | .swap8 => (9, 0, 0)
  | .swap9 => (10, 0, 0)
  | .swap10 => (11, 0, 0)
  | .swap11 => (12, 0, 0)
  | .swap12 => (13, 0, 0)
  | .swap13 => (14, 0, 0)
  | .swap14 => (15, 0, 0)
  | .swap15 => (16, 0, 0)
  | .swap16 => (17, 0, 0)
  | .trap0xA0 => (0, 0, 0)
  | .trap0xA1 => (0, 0, 0)
  | .trap0xA2 => (0, 0, 0)
  | .trap0xA3 => (0, 0, 0)
  | .trap0xA4 => (0, 0, 0)
  | .trap0xA5 => (0, 0, 0)
  | .trap0xA6 => (0, 0, 0)
  | .trap0xA7 => (0, 0, 0)
  | .trap0xA8 => (0, 0, 0)
  | .trap0xA9 => (0, 0, 0)
  | .trap0xAA => (0, 0, 0)
  | .trap0xAB => (0, 0, 0)
  | .trap0xAC => (0, 0, 0)
  | .trap0xAD => (0, 0, 0)
  | .trap0xAE => (0, 0, 0)
  | .trap0xAF => (0, 0, 0)
  | .trap0xB0 => (0, 0, 0)
  | .trap0xB1 => (0, 0, 0)
  | .trap0xB2 => (0, 0, 0)
  | .trap0xB3 => (0, 0, 0)
  | .trap0xB4 => (0, 0, 0)
  | .trap0xB5 => (0, 0, 0)
  | .trap0xB6 => (0, 0, 0)
  | .trap0xB7 => (0, 0, 0)
  | .trap0xB8 => (0, 0, 0)
  | .trap0xB9 => (0, 0, 0)
  | .trap0xBA => (0, 0, 0)
  | .trap0xBB => (0, 0, 0)
  | .trap0xBC => (0, 0, 0)
  | .trap0xBD => (0, 0, 0)
  | .trap0xBE => (0, 0, 0)
  | .trap0xBF => (0, 0, 0)
  | .trap0xC0 => (0, 0, 0)
  | .trap0xC1 => (0, 0, 0)
  | .trap0xC2 => (0, 0, 0)
  | .trap0xC3 => (0, 0, 0)
  | .trap0xC4 => (0, 0, 0)
  | .trap0xC5 => (0, 0, 0)
  | .trap0xC6 => (0, 0, 0)
  | .trap0xC7 => (0, 0, 0)
  | .trap0xC8 => (0, 0, 0)
  | .trap0xC9 => (0, 0, 0)
  | .trap0xCA => (0, 0, 0)
  | .trap0xCB => (0, 0, 0)
  | .trap0xCC => (0, 0, 0)
  | .trap0xCD => (0, 0, 0)
  | .trap0xCE => (0, 0, 0)
  | .trap0xCF => (0, 0, 0)
  | .trap0xD0 => (0, 0, 0)
  | .trap0xD1 => (0, 0, 0)
  | .trap0xD2 => (0, 0, 0)
  | .trap0xD3 => (0, 0, 0)
  | .trap0xD4 => (0, 0, 0)
  | .trap0xD5 => (0, 0, 0)
  | .trap0xD6 => (0, 0, 0)
  | .trap0xD7 => (0, 0, 0)
  | .trap0xD8 => (0, 0, 0)
  | .trap0xD9 => (0, 0, 0)
  | .trap0xDA => (0, 0, 0)
  | .trap0xDB => (0, 0, 0)
  | .trap0xDC => (0, 0, 0)
  | .trap0xDD => (0, 0, 0)
  | .trap0xDE => (0, 0, 0)
  | .trap0xDF => (0, 0, 0)
  | .trap0xE0 => (0, 0, 0)
  | .trap0xE1 => (0, 0, 0)
  | .trap0xE2 => (0, 0, 0)
  | .trap0xE3 => (0, 0, 0)
  | .trap0xE4 => (0, 0, 0)
  | .trap0xE5 => (0, 0, 0)
  | .trap0xE6 => (0, 0, 0)
  | .trap0xE7 => (0, 0, 0)
  | .trap0xE8 => (0, 0, 0)
  | .trap0xE9 => (0, 0, 0)
  | .trap0xEA => (0, 0, 0)
  | .trap0xEB => (0, 0, 0)
  | .trap0xEC => (0, 0, 0)
  | .trap0xED => (0, 0, 0)
  | .trap0xEE => (0, 0, 0)
  | .trap0xEF => (0, 0, 0)
  | .trap0xF0 => (0, 0, 0)
  | .trap0xF1 => (0, 0, 0)
  | .trap0xF2 => (0, 0, 0)
  | .return_ => (2, 2, 0)
  | .trap0xF4 => (0, 0, 0)
  | .trap0xF5 => (0, 0, 0)
  | .trap0xF6 => (0, 0, 0)
  | .trap0xF7 => (0, 0, 0)
  | .trap0xF8 => (0, 0, 0)
  | .trap0xF9 => (0, 0, 0)
  | .trap0xFA => (0, 0, 0)
  | .trap0xFB => (0, 0, 0)
  | .trap0xFC => (0, 0, 0)
  | .revert => (2, 2, 0)
  | .invalid => (0, 0, 0)
  | .trap0xFF => (0, 0, 0)

/-- The instruction boundaries of a code buffer: position 0, and from a boundary inside the code the position one instruction length on, in the
numbering of the map `m` (R81, R262). -/
inductive Boundary (m : OpMap) (code : List Byte) : Nat → Prop where
  | start : Boundary m code 0
  | next (p : Nat) : Boundary m code p → p < code.length → Boundary m code (p + instrLen m (code.getD p 0))

end Sys2Proof.Claims

open Sys2Proof.Claims

/-- ADD and MUL push the exact sum and product reduced modulo 2^256. Basis stated: R121, R122. -/
def Obligations.AddMulAreExactModulo : Prop :=
  BinaryRule .add (fun a b => BitVec.ofNat 256 (a.toNat + b.toNat)) ∧ BinaryRule .mul (fun a b => BitVec.ofNat 256 (a.toNat * b.toNat))

/-- SUB pushes first popped minus second popped modulo 2^256 (order: decision D2, log 2). Basis derived: 41_arithmetic.md R123 (operand order: the spec's decision D2, log 2), R120. -/
def Obligations.SubIsFirstMinusSecond : Prop :=
  BinaryRule .sub (fun a b => BitVec.ofInt 256 ((a.toNat : Int) - (b.toNat : Int)))

/-- DIV pushes the unsigned floor quotient, 0 for a zero divisor. Basis stated: R124. -/
def Obligations.DivIsFloorZeroByZero : Prop :=
  BinaryRule .div (fun a b => if b.toNat = 0 then 0 else BitVec.ofNat 256 (a.toNat / b.toNat))

/-- SDIV, MOD, SMOD push truncated quotient, unsigned and signed remainder (order: decision D2, log 2). Basis derived: 41_arithmetic.md R125, R126, R127 (operand order: decision D2, log 2). -/
def Obligations.SignedDivisionAndRemainders : Prop :=
  BinaryRule .sdiv (fun a b => if b.toNat = 0 then 0 else
      BitVec.ofInt 256 (a.toInt.sign * b.toInt.sign * ((a.toInt.natAbs / b.toInt.natAbs : Nat) : Int))) ∧
    BinaryRule .mod (fun a b => if b.toNat = 0 then 0 else BitVec.ofNat 256 (a.toNat % b.toNat)) ∧
    BinaryRule .smod (fun a b => if b.toNat = 0 then 0 else
      BitVec.ofInt 256 ((if 0 ≤ a.toInt then 1 else -1) * ((a.toInt.natAbs % b.toInt.natAbs : Nat) : Int)))

/-- SDIV and SMOD are exact truncated quotient and remainder, but for MIN / -1, which wraps (D2). Basis derived: 41_arithmetic.md R125, R127 (the dividend is the first argument: decision D2, log 2), R133. -/
def Obligations.SignedDivisionIdentity : Prop :=
  Alu.sdiv (BitVec.ofNat 256 (2 ^ 255)) (BitVec.allOnes 256) = BitVec.ofNat 256 (2 ^ 255) ∧
    ∀ a b : Word, b ≠ 0 →
      (¬ (a = BitVec.ofNat 256 (2 ^ 255) ∧ b = BitVec.allOnes 256) → (Alu.sdiv a b).toInt = Int.tdiv a.toInt b.toInt) ∧
      a.toInt = Int.tdiv a.toInt b.toInt * b.toInt + (Alu.smod a b).toInt ∧ (Alu.smod a b).toInt.natAbs < b.toInt.natAbs

/-- ADDMOD and MULMOD reduce the exact sum and product modulo n, 0 for n = 0. Basis stated: R128, R129. -/
def Obligations.AddmodMulmodUseWideIntermediate : Prop :=
  TernaryRule .addmod (fun a b n => if n.toNat = 0 then 0 else BitVec.ofNat 256 ((a.toNat + b.toNat) % n.toNat)) ∧
    TernaryRule .mulmod (fun a b n => if n.toNat = 0 then 0 else BitVec.ofNat 256 ((a.toNat * b.toNat) % n.toNat))

/-- EXP by repeated squaring is the exact power modulo 2^256 (base popped first: decision D2, log 2). Basis derived: 41_arithmetic.md R130 (which popped word is the base: decision D2, log 2). -/
def Obligations.ExpIsExactPowerModulo : Prop :=
  BinaryRule .exp (fun a b => BitVec.ofNat 256 (a.toNat ^ b.toNat))

/-- SIGNEXTEND(k, x) sign-extends the low 8(k+1) bits of x, and is x for k >= 31. Basis stated: R131. -/
def Obligations.SignextendReplicatesBit : Prop :=
  BinaryRule .signextend (fun k x => if 31 ≤ k.toNat then x else (x.setWidth (8 * k.toNat + 8)).signExtend 256)

/-- LT, GT, SLT, SGT compare the first popped with the second (left side: decision D2, log 2). Basis derived: 42_bitwise.md R141, R142, R143, R144 (which word is the left side: decision D2, log 2). -/
def Obligations.ComparisonsOrderFirstPoppedLeft : Prop :=
  BinaryRule .lt (fun a b => bit (a.toNat < b.toNat)) ∧ BinaryRule .gt (fun a b => bit (a.toNat > b.toNat)) ∧
    BinaryRule .slt (fun a b => bit (a.toInt < b.toInt)) ∧ BinaryRule .sgt (fun a b => bit (a.toInt > b.toInt))

/-- EQ pushes 1 if all 256 bits agree, ISZERO pushes 1 if the word is 0, else 0. Basis stated: R145, R146. -/
def Obligations.EqAndIszeroPushOneOrZero : Prop :=
  BinaryRule .eq (fun a b => bit (a = b)) ∧ UnaryRule .iszero (fun a => bit (a.toNat = 0))

/-- AND, OR, XOR, NOT act on each of the 256 bits alone. Basis stated: R147, R148, R149, R150. -/
def Obligations.LogicIsBitwise : Prop :=
  BitwiseRule .and (fun p q => p && q) ∧ BitwiseRule .or (fun p q => p || q) ∧ BitwiseRule .xor (fun p q => p != q) ∧
    ∃ f : Word → Word, UnaryRule .not f ∧ ∀ a : Word, ∀ j, j < 256 → (f a).getLsbD j = !a.getLsbD j

/-- BYTE(i, x) pushes byte i of x counted from the most significant, 0 for i >= 32. Basis stated: R151. -/
def Obligations.ByteSelectsFromMostSignificant : Prop :=
  BinaryRule .byte (fun i x => if 32 ≤ i.toNat then 0 else BitVec.ofNat 256 (x.toNat / 2 ^ (8 * (31 - i.toNat)) % 256))

/-- SHL and SHR shift by the whole first word, 0 from 256 on. Basis stated: R152, R153. -/
def Obligations.LogicalShiftsSaturate : Prop :=
  BinaryRule .shl (fun s x => if 256 ≤ s.toNat then 0 else BitVec.ofNat 256 (x.toNat * 2 ^ s.toNat)) ∧
    BinaryRule .shr (fun s x => if 256 ≤ s.toNat then 0 else BitVec.ofNat 256 (x.toNat / 2 ^ s.toNat))

/-- SAR(s, x) is floor(sval x / 2^s), and all sign bits from 256 on. Basis stated: R154. -/
def Obligations.SarFloorsTowardMinusInfinity : Prop :=
  BinaryRule .sar (fun s x => if 256 ≤ s.toNat then (if x.getLsbD 255 then BitVec.ofNat 256 (2 ^ 256 - 1) else 0)
      else BitVec.ofInt 256 (Int.fdiv x.toInt (2 ^ s.toNat))) ∧
    ∀ s x : Word, s.toNat < 256 → ∀ i, i < 256 →
      (Alu.sar s x).getLsbD i = if i + s.toNat ≤ 255 then x.getLsbD (i + s.toNat) else x.getLsbD 255

/-- POP removes the top word, underflows on the empty stack. Basis stated: R160, R22. -/
def Obligations.PopDiscardsTop : Prop :=
  (∀ m : OpMap, (encode m .pop).length = 1) ∧ ∀ s : State, (s.stack = [] → exec .pop s = .next (failed s .stackUnderflow)) ∧
    ∀ a rest, s.stack = a :: rest → s.stack.length ≤ 1024 → exec .pop s = .next (done s 1 rest)

/-- Every PUSH-k pushes its immediate and advances by k + 1, overflows at depth 1024. Basis derived: 43_stack.md R161, R23, R84. -/
def Obligations.PushImmediateIsPushed : Prop :=
  ∀ f ∈ pushForms, ∀ (imm : Word) (s : State),
    (s.stack.length < 1024 → exec (f.2 imm) s = .next (done s (f.1 + 1) (imm :: s.stack))) ∧
    (s.stack.length = 1024 → exec (f.2 imm) s = .next (failed s .stackOverflow))

/-- A step at PUSH-k pushes W(be(CodeRead(pc+1, k))) and advances by k + 1. Basis stated: R161. -/
def Obligations.PushStepReadsCodeBytes : Prop :=
  ∀ f ∈ pushForms, ∀ (s : State) (imm : Word), s.run = .running → fetchInstr s = f.2 imm →
    (encode s.cfg.opmap (f.2 imm)).length = f.1 + 1 ∧
    (s.stack.length < 1024 →
      step s = .next (done s (f.1 + 1) (BitVec.ofNat 256 (beNat (bufferRead s.code (s.pc + 1) f.1)) :: s.stack))) ∧
    (s.stack.length = 1024 → step s = .next (failed s .stackOverflow))

/-- A truncated immediate keeps its bytes in the high places, zeros below. Basis derived: 30_encoding.md R83 (conflict C1 as resolved in 90_conflicts.md). -/
def Obligations.TruncatedImmediateIsLeftAligned : Prop :=
  ∀ (code : List Byte) (off k : Nat),
    beNat (bufferRead code off k) = beNat ((code.drop off).take k) * 256 ^ (k - min k (code.length - off)) ∧
    beNat (bufferRead code off k) < 2 ^ (8 * k)

/-- DUP-n pushes a copy of the n-th word, underflows below n words, overflows at 1024. Basis stated: R194, R24. -/
def Obligations.DupCopiesNthWord : Prop :=
  ∀ f ∈ dupForms, (∀ m : OpMap, (encode m f.2).length = 1) ∧ ∀ s : State,
    (s.stack.length < f.1 → exec f.2 s = .next (failed s .stackUnderflow)) ∧
    (s.stack.length = 1024 → exec f.2 s = .next (failed s .stackOverflow)) ∧
    (f.1 ≤ s.stack.length → s.stack.length < 1024 → ∀ v, s.stack[f.1 - 1]? = some v → exec f.2 s = .next (done s 1 (v :: s.stack)))

/-- SWAP-n exchanges x[0] and x[n] and nothing else, underflows at depth <= n. Basis stated: R211, R25. -/
def Obligations.SwapExchangesTopAndNth : Prop :=
  ∀ f ∈ swapForms, (∀ m : OpMap, (encode m f.2).length = 1) ∧ ∀ s : State,
    (s.stack.length ≤ f.1 → exec f.2 s = .next (failed s .stackUnderflow)) ∧
    (f.1 < s.stack.length → s.stack.length ≤ 1024 → ∃ stack, exec f.2 s = .next (done s 1 stack) ∧
      stack.length = s.stack.length ∧ stack[0]? = s.stack[f.1]? ∧ stack[f.1]? = s.stack[0]? ∧
      ∀ j, j ≠ 0 → j ≠ f.1 → stack[j]? = s.stack[j]?)

/-- MemExpand grows to the covering multiple of 32, zero-fills, or reports the range error; zero length does nothing (D6, D7, D17). Basis derived: 20_memory.md R56 (limit and error: decision D6, log 5), 20_memory.md R62 (zero length touches nothing: decision D7, log 7), 20_memory.md R63 (unreduced sum addr + n: decision D17, log 15). -/
def Obligations.ExpansionCoversAndZeroFills : Prop :=
  ∀ (s : State) (addr n : Nat), Inv s →
    (n = 0 → rangeError s.cfg addr n = none ∧ memExpand addr n s = s) ∧
    (n ≠ 0 → s.cfg.memLimit < addr + n → rangeError s.cfg addr n = some (overLimit s)) ∧
    (addr + n ≤ s.cfg.memLimit → rangeError s.cfg addr n = none) ∧
    (memExpand addr n s).memLen = grown s addr n ∧
    (∀ a, a < s.memLen → (memExpand addr n s).byteAt a = s.byteAt a) ∧
    (∀ a, s.memLen ≤ a → (memExpand addr n s).byteAt a = 0) ∧
    (memExpand addr n s).stack = s.stack ∧ (memExpand addr n s).pc = s.pc ∧ (memExpand addr n s).run = s.run ∧
    SameBuffers s (memExpand addr n s)

/-- MSTORE stores the 32 bytes of the value, most significant first, and no other byte (D3, D5, D6, D17). Basis derived: 44_memory_data.md R242 (operand order: D3, log 2), R52 (big-endian memory: D5, log 4), R53, 20_memory.md R56, R63 (limit: decision D6, log 5; unreduced sum: decision D17, log 15). -/
def Obligations.MstoreStoresWordBigEndian : Prop :=
  ∀ (s : State) (addr v : Word) (rest : List Word), Inv s → s.stack = addr :: v :: rest → addr.toNat + 32 ≤ s.cfg.memLimit →
    ∃ t, exec .mstore s = .next t ∧ t.stack = rest ∧ t.pc = s.pc + 1 ∧ t.run = .running ∧ t.memLen = grown s addr.toNat 32 ∧
      (∀ j, j < 32 → t.byteAt (addr.toNat + j) = v.extractLsb' (248 - 8 * j) 8) ∧
      (∀ a, (a < addr.toNat ∨ addr.toNat + 32 ≤ a) → t.byteAt a = s.byteAt a) ∧ SameBuffers s t

/-- MSTORE8 stores the least significant byte of the value and no other byte (D3, D4, D6, D17). Basis derived: 44_memory_data.md R243 (operand order: D3, log 2; which byte: D4, log 3), 20_memory.md R56, R63 (limit: decision D6, log 5; unreduced sum: decision D17, log 15). -/
def Obligations.Mstore8StoresLowByte : Prop :=
  ∀ (s : State) (addr v : Word) (rest : List Word), Inv s → s.stack = addr :: v :: rest → addr.toNat + 1 ≤ s.cfg.memLimit →
    ∃ t, exec .mstore8 s = .next t ∧ t.stack = rest ∧ t.pc = s.pc + 1 ∧ t.run = .running ∧ t.memLen = grown s addr.toNat 1 ∧
      (t.byteAt addr.toNat).toNat = v.toNat % 256 ∧
      (∀ a, a ≠ addr.toNat → t.byteAt a = s.byteAt a) ∧ SameBuffers s t

/-- MLOAD pushes the 32 bytes at the address, most significant first, and grows memory (D5, D6, D17). Basis derived: 44_memory_data.md R241, R57, R52 (big-endian memory: D5, log 4), 20_memory.md R56, R63 (limit: decision D6, log 5; unreduced sum: decision D17, log 15). -/
def Obligations.MloadReadsWordBigEndian : Prop :=
  ∀ (s : State) (addr : Word) (rest : List Word), Inv s → s.stack = addr :: rest → addr.toNat + 32 ≤ s.cfg.memLimit →
    ∃ t r, exec .mload s = .next t ∧ t.stack = r :: rest ∧ t.pc = s.pc + 1 ∧ t.run = .running ∧ t.memLen = grown s addr.toNat 32 ∧
      (∀ j, j < 32 → r.extractLsb' (248 - 8 * j) 8 = s.byteAt (addr.toNat + j)) ∧
      (∀ a, t.byteAt a = s.byteAt a) ∧ SameBuffers s t

/-- MLOAD after MSTORE at the same address returns exactly the value stored (D3, D6, D17). Basis derived: 44_memory_data.md R241, R242 (operand order: D3, log 2), 95_test_vectors.md X4, 20_memory.md R56, R63 (limit: decision D6, log 5; unreduced sum: decision D17, log 15). -/
def Obligations.MloadAfterMstoreReturnsValue : Prop :=
  ∀ (s : State) (addr v : Word) (rest rest' : List Word), Inv s → s.stack = addr :: v :: rest → addr.toNat + 32 ≤ s.cfg.memLimit →
    rest'.length < 1024 →
    ∃ t u, exec .mstore s = .next t ∧ exec .mload { t with stack := addr :: rest' } = .next u ∧ u.stack = v :: rest'

/-- An access beyond MEM_LIMIT exits with OVERSIZE_ERROR and changes nothing (D6; order D3, operands kept D11, length 0 D7, exact end D17). Basis derived: 60_exceptions.md R284, R286 (limit and error: decision D6, log 5), 20_memory.md R56, R63 (unreduced sum: decision D17, log 15), 20_memory.md R62 (zero length exempt: decision D7, log 7), 40_dispatch.md R104 (operands kept when the range test fails: decision D11, log 10), 44_memory_data.md R240 and 45_control.md R267, R268 (operand order: D3, log 2). -/
def Obligations.OverLimitAccessExitsWithRangeError : Prop :=
  ∀ s : State, s.stack.length ≤ 1024 →
    (∀ a rest, s.stack = a :: rest → s.cfg.memLimit < a.toNat + 32 → exec .mload s = .next (failed s (overLimit s))) ∧
    (∀ a b rest, s.stack = a :: b :: rest →
      (s.cfg.memLimit < a.toNat + 32 → exec .mstore s = .next (failed s (overLimit s))) ∧
      (s.cfg.memLimit < a.toNat + 1 → exec .mstore8 s = .next (failed s (overLimit s))) ∧
      (b.toNat ≠ 0 → s.cfg.memLimit < a.toNat + b.toNat →
        exec .return_ s = .next (failed s (overLimit s)) ∧ exec .revert s = .next (failed s (overLimit s)))) ∧
    (∀ a b c rest, s.stack = a :: b :: c :: rest → c.toNat ≠ 0 → s.cfg.memLimit < a.toNat + c.toNat →
      exec .calldatacopy s = .next (failed s (overLimit s)) ∧ exec .codecopy s = .next (failed s (overLimit s)))

/-- MSIZE, CALLDATASIZE, CODESIZE, PC push mem_len, input_len, code_len, position. Basis stated: R244, R246, R248, R261. -/
def Obligations.SizesAndPositionArePushed : Prop :=
  PushRule .msize (fun s => BitVec.ofNat 256 s.memLen) ∧ PushRule .calldatasize (fun s => BitVec.ofNat 256 s.input.length) ∧
    PushRule .codesize (fun s => BitVec.ofNat 256 s.code.length) ∧ PushRule .pc (fun s => BitVec.ofNat 256 s.pc)

/-- CALLDATALOAD pushes 32 input bytes, most significant first, zero past the end, never an error (D5, D17). Basis derived: 44_memory_data.md R245, 20_memory.md R61, R63 (unreduced sum off + j: decision D17, log 15), R52 (big-endian input: D5, log 4). -/
def Obligations.CalldataloadPadsWithZeros : Prop :=
  ∀ (s : State) (off : Word) (rest : List Word), s.stack = off :: rest → s.stack.length ≤ 1024 →
    ∃ r, exec .calldataload s = .next (done s 1 (r :: rest)) ∧
      ∀ j, j < 32 → r.extractLsb' (248 - 8 * j) 8 = if off.toNat + j < s.input.length then s.input.getD (off.toNat + j) 0 else 0

/-- CALLDATACOPY and CODECOPY copy len bytes, zero past the source's end, and touch no other byte (D3, D6, D7, D17). Basis derived: 44_memory_data.md R247, R249 (operand order: D3, log 2), 20_memory.md R60, R61, R63 (unreduced sums src + j, dst + len: decision D17, log 15), 20_memory.md R62 (zero length: decision D7, log 7), 20_memory.md R56 (limit: decision D6, log 5). -/
def Obligations.CopiesMoveBytesAndPad : Prop :=
  ∀ (s : State) (dst src len : Word) (rest : List Word), Inv s → s.stack = dst :: src :: len :: rest →
    (len.toNat ≠ 0 → dst.toNat + len.toNat ≤ s.cfg.memLimit) →
    ∀ c ∈ [(Instr.calldatacopy, s.input), (Instr.codecopy, s.code)],
    ∃ t, exec c.1 s = .next t ∧ t.stack = rest ∧ t.pc = s.pc + 1 ∧ t.run = .running ∧ t.memLen = grown s dst.toNat len.toNat ∧
      (∀ j, j < len.toNat → t.byteAt (dst.toNat + j) = if src.toNat + j < c.2.length then c.2.getD (src.toNat + j) 0 else 0) ∧
      (∀ a, (a < dst.toNat ∨ dst.toNat + len.toNat ≤ a) → t.byteAt a = s.byteAt a) ∧ SameBuffers s t

/-- JUMP goes to a valid target and exits with InvalidJump on any other (D11, D13). Basis derived: 45_control.md R263 (operand kept on failure: decision D11, log 10; validator: D13, log 11), R283. -/
def Obligations.JumpGoesToValidTargetOnly : Prop :=
  ∀ s : State, (s.stack = [] → exec .jump s = .next (failed s .stackUnderflow)) ∧
    ∀ t rest, s.stack = t :: rest → s.stack.length ≤ 1024 →
      (isValidJump s.cfg.opmap s.code t = true → exec .jump s = .next { s with stack := rest, pc := t.toNat, run := .running }) ∧
      (isValidJump s.cfg.opmap s.code t = false → exec .jump s = .next (failed s .invalidJump))

/-- JUMPI jumps if its condition is not 0, else goes on with the target unchecked (D3, D11, D13). Basis derived: 45_control.md R264 (operand order: decision D3, log 2; operands kept on failure: D11, log 10; validator: D13, log 11). -/
def Obligations.JumpiJumpsOnNonzeroCondition : Prop :=
  ∀ s : State, (s.stack.length < 2 → exec .jumpi s = .next (failed s .stackUnderflow)) ∧
    ∀ t c rest, s.stack = t :: c :: rest → s.stack.length ≤ 1024 →
      (c.toNat = 0 → exec .jumpi s = .next (done s 1 rest)) ∧
      (c.toNat ≠ 0 → isValidJump s.cfg.opmap s.code t = true → exec .jumpi s = .next { s with stack := rest, pc := t.toNat, run := .running }) ∧
      (c.toNat ≠ 0 → isValidJump s.cfg.opmap s.code t = false → exec .jumpi s = .next (failed s .invalidJump))

/-- JUMPDEST advances by 1 and changes nothing else, on every stack. Basis stated: R265. -/
def Obligations.JumpdestOnlyAdvances : Prop :=
  (∀ m : OpMap, (encode m .jumpdest).length = 1) ∧ ∀ s : State, exec .jumpdest s = .next (done s 1 s.stack)

/-- STOP exits with Stopped, INVALID always with DesignatedInvalid, nothing else changed. Basis stated: R266, R269, R285. -/
def Obligations.StopAndInvalidEndTheFrame : Prop :=
  (∀ m : OpMap, (encode m .stop).length = 1 ∧ (encode m .invalid).length = 1) ∧
    (∀ s : State, exec .stop s = .next { s with run := .exited (.succeed .stopped) } ∧
      exec .invalid s = .next (failed s .designatedInvalid)) ∧
    ∀ (i : Instr) (s t : State), exec i s = .next t → t.run = .exited (.error .designatedInvalid) → i = .invalid

/-- RETURN and REVERT exit with the memory range as payload, growing memory if needed (D3, D6, D7, D17). Basis derived: 45_control.md R267, R268 (operand order: D3, log 2; length 0: D7, log 7), 20_memory.md R56, R63 (limit: decision D6, log 5; unreduced sum: decision D17, log 15). -/
def Obligations.ReturnAndRevertExitWithMemory : Prop :=
  ∀ (s : State) (addr len : Word) (rest : List Word), Inv s → s.stack = addr :: len :: rest →
    (len.toNat ≠ 0 → addr.toNat + len.toNat ≤ s.cfg.memLimit) →
    ∃ (payload : List Byte) (t u : State), exec .return_ s = .next t ∧ exec .revert s = .next u ∧
      payload.length = len.toNat ∧ (∀ j, j < len.toNat → payload.getD j 0 = s.byteAt (addr.toNat + j)) ∧
      t.run = .exited (.succeed (.returned payload)) ∧ u = { t with run := .exited (.revert payload) } ∧
      t.stack = rest ∧ t.pc = s.pc ∧ t.memLen = grown s addr.toNat len.toNat ∧ (∀ a, t.byteAt a = s.byteAt a) ∧ SameBuffers s t

/-- Each of the 149 trap instructions only sets the run state to Trapped with its opcode byte (log 26). Basis derived: 40_dispatch.md R106, R108, 00_scope.md R7 and 30_encoding.md R87 (OPMAP renumbers the trap rows with the rest: log 26). -/
def Obligations.TrapBytesEscalateUnchanged : Prop :=
  ∀ f ∈ trapForms, (∀ m : OpMap, encode m f.2 = [opByte m f.1]) ∧ encode tableMap f.2 = [f.1] ∧
    ∀ s : State, exec f.2 s = .next { s with run := .trapped (opByte s.cfg.opmap f.1) }

/-- VALID_JUMPDEST is the set of instruction boundaries that hold a JUMPDEST (D13). Basis derived: 45_control.md R262 (the sweep: decision D13, log 11), R81. -/
def Obligations.ValidTargetsAreJumpdestsAtBoundaries : Prop :=
  ∀ (m : OpMap) (code : List Byte) (p : Nat),
    p ∈ validJumpdests m code ↔ Boundary m code p ∧ p < code.length ∧ code.getD p 0 = opByte m (encodingOf .jumpdest).1

/-- A jump into a PUSH immediate is invalid, even onto a byte equal to JUMPDEST (D13). Basis derived: 45_control.md R262, R263 (the sweep: decision D13, log 11), R89. -/
def Obligations.ImmediateBytesAreNeverTargets : Prop :=
  ∀ (m : OpMap) (code : List Byte) (q j : Nat) (t : Word), Boundary m code q → q < code.length → 1 ≤ j → j ≤ immLen m (code.getD q 0) →
    t.toNat = q + j → isValidJump m code t = false

/-- A Running step is exec of the instruction the bytes at the position decode to. Basis derived: 40_dispatch.md R101, R102, R107. -/
def Obligations.StepRunsTheDecodedInstruction : Prop :=
  ∀ (s : State) (i : Instr) (rest : List Byte), s.run = .running → decode s.cfg.opmap (bufferRead s.code s.pc 33) = .ok (i, rest) →
    fetchInstr s = i ∧ step s = exec i s

/-- withFetchWord places a table word so that the next step runs exactly it (log 14, log 23). Basis derived: 40_dispatch.md R102, R107 (loading a program: log 14, log 23). -/
def Obligations.FetchWordIsRunNext : Prop :=
  ∀ (s : State) (nbits w : Nat) (i : Instr), decodeTableWord nbits w = some i →
    step (s.withFetchWord nbits w) = exec i (s.withFetchWord nbits w) ∧
    ∃ code, s.withFetchWord nbits w = { s with code := code, run := .running } ∧ ∀ j, j < s.pc → code.getD j 0 = s.code.getD j 0

/-- A step at or past the end of code runs what 0x00 stands for; where that is STOP the frame stops (D10, log 9). Basis derived: 40_dispatch.md R109 (decision D10, log 9). -/
def Obligations.FetchPastEndOfCodeStops : Prop :=
  endIsStop tableMap ∧ ∀ s : State, s.run = .running → s.code.length ≤ s.pc →
    step s = exec (decodeOpcode s.cfg.opmap 0 0) s ∧
    (endIsStop s.cfg.opmap → step s = .next { s with run := .exited (.succeed .stopped) })

/-- An Exited state steps to itself (D23, log 13). Basis derived: 10_state.md R34 (absorbing: decision D23, log 13). -/
def Obligations.ExitedIsAbsorbing : Prop :=
  ∀ (s : State) (r : Reason), s.run = .exited r → step s = .next s

/-- From Trapped only the host moves: exit, resume with a fitting context, or suspended (D14, log 12). Basis derived: 60_exceptions.md R292, R293 (HOST_TRAP as a list of answers: decision D14, log 12). -/
def Obligations.TrapIsAnsweredByTheHost : Prop :=
  ∀ (s : State) (op : Byte), s.run = .trapped op →
    (s.hostAnswers = [] → step s = .fault (.awaitingHost op)) ∧
    (∀ r more, s.hostAnswers = .exit r :: more → step s = .next { s with run := .exited r, hostAnswers := more }) ∧
    (∀ stack mem memLen pc more, s.hostAnswers = .resume stack mem memLen pc :: more →
      (stack.length ≤ 1024 ∧ memLen % 32 = 0 ∧ memLen ≤ s.cfg.memLimit ∧ Memory.wf mem ∧ (∀ c ∈ mem, c.1 < memLen) ∧
          pc < 2 ^ s.cfg.pcBits →
        step s = .next { s with stack := stack, mem := mem, memLen := memLen, pc := pc, run := .running, hostAnswers := more }) ∧
      (¬ (stack.length ≤ 1024 ∧ memLen % 32 = 0 ∧ memLen ≤ s.cfg.memLimit ∧ Memory.wf mem ∧ (∀ c ∈ mem, c.1 < memLen) ∧
          pc < 2 ^ s.cfg.pcBits) →
        step s = .refused (.hostAnswerIllFormed op)))

/-- The reset state is empty, at position 0 (D9, log 8), running, and has the invariant. Basis derived: 10_state.md R37 (pc = 0: decision D9, log 8), R310. -/
def Obligations.ResetIsEmptyAndGood : Prop :=
  State.reset.stack = [] ∧ State.reset.mem = [] ∧ State.reset.memLen = 0 ∧ State.reset.pc = 0 ∧ State.reset.run = .running ∧ Inv State.reset

/-- Every step from a good state gives a good state. Basis derived: 10_state.md R21, R26, R27, R28, R29, R30, R292. -/
def Obligations.StepKeepsTheInvariants : Prop :=
  ∀ s t : State, Inv s → step s = .next t → Inv t

/-- A Running step keeps the position at most code_len + 32, where 0x00 is STOP (D10, log 9). Basis derived: 40_dispatch.md R110 (fetch past the end is STOP: D10, log 9), R109. -/
def Obligations.PositionStaysWithinCodePlus32 : Prop :=
  ∀ s t : State, endIsStop s.cfg.opmap → s.run = .running → s.pc ≤ s.code.length + 32 → step s = .next t → t.pc ≤ t.code.length + 32

/-- No step writes the code, the input or the parameters. Basis derived: 10_state.md R29, R30, 20_memory.md R50, R69. -/
def Obligations.BuffersAndParametersNeverChange : Prop :=
  ∀ s t : State, step s = .next t → t.code = s.code ∧ t.input = s.input ∧ t.cfg = s.cfg

/-- No instruction shrinks memory; only the four storing instructions change a byte of it. Basis derived: 10_state.md R27, 20_memory.md R56, R59. -/
def Obligations.MemoryNeverShrinksAndKeepsUnwrittenBytes : Prop :=
  ∀ (i : Instr) (s t : State), Inv s → exec i s = .next t → s.memLen ≤ t.memLen ∧
    (i ∉ [Instr.mstore, .mstore8, .calldatacopy, .codecopy] → ∀ a, t.byteAt a = s.byteAt a)

/-- A step that exits with an error has changed nothing but the run state (R104, D11). Basis derived: 40_dispatch.md R104 (D11 for the cases the source does not spell out, log 10), 60_exceptions.md R280. -/
def Obligations.ErrorExitsChangeNothing : Prop :=
  ∀ (i : Instr) (s t : State) (e : ErrorReason), exec i s = .next t → t.run = .exited (.error e) → t = failed s e

/-- No instruction faults, is refused or is undefined in any state. Basis derived: 40_dispatch.md R105. -/
def Obligations.EveryInstructionAnswersANextState : Prop :=
  ∀ (i : Instr) (s : State), ∃ t, exec i s = .next t ∧ SameBuffers s t

/-- StackUnderflow is raised exactly when depth is below the words the instruction needs. Basis stated: R281. -/
def Obligations.UnderflowExactlyBelowNeed : Prop :=
  ∀ (i : Instr) (s t : State), exec i s = .next t →
    (t.run = .exited (.error .stackUnderflow) ↔ s.stack.length < (stackUse i).1)

/-- StackOverflow is raised exactly by an instruction that pushes more than it pops at depth 1024. Basis stated: R282. -/
def Obligations.OverflowExactlyAtFullStack : Prop :=
  ∀ (i : Instr) (s t : State), s.stack.length ≤ 1024 → exec i s = .next t →
    ((t.run = .exited (.error .stackOverflow) ↔ s.stack.length = 1024 ∧ (stackUse i).2.1 < (stackUse i).2.2) ∧
      ((stackUse i).2.1 < (stackUse i).2.2 ↔ i ∈ [Instr.pc, .msize, .calldatasize, .codesize] ∨ (∃ f ∈ dupForms, i = f.2) ∨
        ∃ f ∈ pushForms, ∃ imm, i = f.2 imm))

/-- Without an error, depth changes by exactly pushes minus pops. Basis derived: 40_dispatch.md R103, 30_encoding.md R86. -/
def Obligations.StackDepthChangesByPushesMinusPops : Prop :=
  ∀ (i : Instr) (s t : State), exec i s = .next t → (∀ e, t.run ≠ .exited (.error e)) →
    t.stack.length + (stackUse i).2.1 = s.stack.length + (stackUse i).2.2

/-- InvalidJump is raised exactly by JUMP, or a taken JUMPI, on a target that is not valid (D3, D11, D13). Basis derived: 60_exceptions.md R283 (JUMPI order: D3, log 2; target kept: D11, log 10; validator: D13, log 11). -/
def Obligations.InvalidJumpExactlyOnBadTarget : Prop :=
  ∀ (i : Instr) (s t : State), s.stack.length ≤ 1024 → exec i s = .next t →
    ((t.run = .exited (.error .invalidJump) ↔
      ((i = .jump ∧ 1 ≤ s.stack.length) ∨ (i = .jumpi ∧ 2 ≤ s.stack.length ∧ (s.x 1).toNat ≠ 0)) ∧ isValidJump s.cfg.opmap s.code (s.x 0) = false) ∧
    (t.run = .exited (.error .invalidJump) → t.stack = s.stack))

/-- The position moves by the instruction's length, or to a valid target by a jump, or stays when the frame leaves Running (D3, D13). Basis derived: 10_state.md R32, 40_dispatch.md R108, 30_encoding.md R81, 45_control.md R262 (validator: decision D13, log 11), 45_control.md R263, R264 (JUMPI's target on top: decision D3, log 2). -/
def Obligations.PositionMovesByLengthOrValidJump : Prop :=
  ∀ (i : Instr) (s t : State), exec i s = .next t →
    (t.run = .running → t.pc = s.pc + (encode s.cfg.opmap i).length ∨
      ((i = .jump ∨ i = .jumpi) ∧ isValidJump s.cfg.opmap s.code (s.x 0) = true ∧ t.pc = (s.x 0).toNat)) ∧
    (t.run ≠ .running → t.pc = s.pc)

/-- A Running step never exits with PCUnderflow or SelfDestructed, and with Other only by parameter (D16). Basis derived: 60_exceptions.md R286, R287, R288 (decision D16, log 17). -/
def Obligations.NeverProducedReasonsAreUnreachable : Prop :=
  ∀ s t : State, s.run = .running → step s = .next t →
    t.run ≠ .exited (.error .pcUnderflow) ∧ t.run ≠ .exited (.succeed .selfDestructed) ∧
    (t.run = .exited (.error (.other ())) → s.cfg.oversizeError = .other) ∧
    (t.run = .exited (.error .invalidRange) → s.cfg.oversizeError = .invalidRange)

/-- A Running step that traps hands over the byte at the position and leaves the context unchanged. Basis derived: 40_dispatch.md R102, R106, R108, 60_exceptions.md R292, 00_scope.md R7 and 30_encoding.md R87 (which bytes are trap bytes under OPMAP: log 26). -/
def Obligations.TrapHandsOverTheFetchedByte : Prop :=
  ∀ (s t : State) (op : Byte), s.run = .running → step s = .next t →
    (t.run = .trapped op ↔ fetchOpcode s = op ∧ ∃ f ∈ trapForms, opByte s.cfg.opmap f.1 = op) ∧
    (t.run = .trapped op → t = { s with run := .trapped op })

/-- The big-endian byte encoding of a word and back is the identity, both ways. Basis stated: R9. -/
def Obligations.WordBytesRoundTrip : Prop :=
  (∀ w : Word, (bytesBE w).length = 32 ∧ (∀ i, i < 32 → (bytesBE w)[i]? = some (w.extractLsb' (248 - 8 * i) 8)) ∧
      beNat (bytesBE w) = w.toNat) ∧
    beNat [] = 0 ∧ (∀ (b : Byte) (bs : List Byte), beNat (b :: bs) = b.toNat * 256 ^ bs.length + beNat bs) ∧
    ∀ bs : List Byte, bs.length = 32 → bytesBE (BitVec.ofNat 256 (beNat bs)) = bs

/-- Words written out from the opcode map decode to their instructions (D1, log 1). Basis derived: 30_encoding.md R86, R83 (byte values: decision D1, log 1). -/
def Obligations.OpcodeBytesDecode : Prop :=
  decode tableMap [0x01] = .ok (.add, []) ∧ decode tableMap [0x1D, 0x00] = .ok (.sar, [0x00]) ∧ decode tableMap [0x37] = .ok (.calldatacopy, []) ∧
    decode tableMap [0x53] = .ok (.mstore8, []) ∧ decode tableMap [0x57] = .ok (.jumpi, []) ∧ decode tableMap [0x61, 0x01, 0x02, 0x03] = .ok (.push2 0x0102, [0x03]) ∧
    decode tableMap [0x8F] = .ok (.dup16, []) ∧ decode tableMap [0x90] = .ok (.swap1, []) ∧ decode tableMap [0xFD] = .ok (.revert, []) ∧
    decode tableMap [0x54] = .ok (.trap0x54, []) ∧ decode tableMap [0x62, 0x01] = .error (.truncatedImmediate 3 1) ∧ decode tableMap [] = .error .noOpcode

/-- Decoding the encoding of a well-formed instruction gives it back, whatever follows, under every OPMAP. Basis derived: 30_encoding.md R80, R83, R86. -/
def Obligations.DecodeOfEncodeIsIdentity : Prop :=
  ∀ (m : OpMap) (i : Instr) (rest : List Byte), i.wellFormed = true → decode m (encode m i ++ rest) = .ok (i, rest)

/-- What decodes is well formed and was encoded by exactly the bytes consumed; every byte decodes, under every OPMAP. Basis derived: 30_encoding.md R80, R81, R85. -/
def Obligations.EncodeOfDecodeIsIdentity : Prop :=
  (∀ (m : OpMap) (bs : List Byte) (i : Instr) (rest : List Byte), decode m bs = .ok (i, rest) →
      i.wellFormed = true ∧ bs = encode m i ++ rest) ∧
    ∀ (m : OpMap) (op : Byte) (bs : List Byte), 32 ≤ bs.length → ∃ i rest, decode m (op :: bs) = .ok (i, rest)
end

