-- ==== Sys2Proof/Laws/Encoding.lean ====
section
/-! SUPPORT. The opcode table and OPMAP read backwards: what the encoder gives for the instruction a byte decodes to, and which numberings a map
can be. -/

namespace Sys2Proof

/-- What a row of the opcode map says of its instruction: the encoder gives it the row's byte and immediate length. -/
def OpRow.agrees (r : OpRow) : Prop :=
  ∀ imm, encodingOf (r.make imm) = (r.opcode, r.immBytes, if r.immBytes = 0 then 0 else imm)

theorem opcodeRows0_agree : ∀ r ∈ opcodeRows0, r.agrees := by
  simp only [opcodeRows0, List.forall_mem_cons]
  exact ⟨fun _ => rfl, fun _ => rfl, fun _ => rfl, fun _ => rfl, fun _ => rfl, fun _ => rfl, fun _ => rfl, fun _ => rfl,
    fun _ => rfl, fun _ => rfl, fun _ => rfl, fun _ => rfl, fun _ => rfl, fun _ => rfl, fun _ => rfl, fun _ => rfl, fun _ h => absurd h List.not_mem_nil⟩

theorem opcodeRows1_agree : ∀ r ∈ opcodeRows1, r.agrees := by
  simp only [opcodeRows1, List.forall_mem_cons]
  exact ⟨fun _ => rfl, fun _ => rfl, fun _ => rfl, fun _ => rfl, fun _ => rfl, fun _ => rfl, fun _ => rfl, fun _ => rfl,
    fun _ => rfl, fun _ => rfl, fun _ => rfl, fun _ => rfl, fun _ => rfl, fun _ => rfl, fun _ => rfl, fun _ => rfl, fun _ h => absurd h List.not_mem_nil⟩

theorem opcodeRows2_agree : ∀ r ∈ opcodeRows2, r.agrees := by
  simp only [opcodeRows2, List.forall_mem_cons]
  exact ⟨fun _ => rfl, fun _ => rfl, fun _ => rfl, fun _ => rfl, fun _ => rfl, fun _ => rfl, fun _ => rfl, fun _ => rfl,
    fun _ => rfl, fun _ => rfl, fun _ => rfl, fun _ => rfl, fun _ => rfl, fun _ => rfl, fun _ => rfl, fun _ => rfl, fun _ h => absurd h List.not_mem_nil⟩

theorem opcodeRows3_agree : ∀ r ∈ opcodeRows3, r.agrees := by
  simp only [opcodeRows3, List.forall_mem_cons]
  exact ⟨fun _ => rfl, fun _ => rfl, fun _ => rfl, fun _ => rfl, fun _ => rfl, fun _ => rfl, fun _ => rfl, fun _ => rfl,
    fun _ => rfl, fun _ => rfl, fun _ => rfl, fun _ => rfl, fun _ => rfl, fun _ => rfl, fun _ => rfl, fun _ => rfl, fun _ h => absurd h List.not_mem_nil⟩

theorem opcodeRows4_agree : ∀ r ∈ opcodeRows4, r.agrees := by
  simp only [opcodeRows4, List.forall_mem_cons]
  exact ⟨fun _ => rfl, fun _ => rfl, fun _ => rfl, fun _ => rfl, fun _ => rfl, fun _ => rfl, fun _ => rfl, fun _ => rfl,
    fun _ => rfl, fun _ => rfl, fun _ => rfl, fun _ => rfl, fun _ => rfl, fun _ => rfl, fun _ => rfl, fun _ => rfl, fun _ h => absurd h List.not_mem_nil⟩

theorem opcodeRows5_agree : ∀ r ∈ opcodeRows5, r.agrees := by
  simp only [opcodeRows5, List.forall_mem_cons]
  exact ⟨fun _ => rfl, fun _ => rfl, fun _ => rfl, fun _ => rfl, fun _ => rfl, fun _ => rfl, fun _ => rfl, fun _ => rfl,
    fun _ => rfl, fun _ => rfl, fun _ => rfl, fun _ => rfl, fun _ => rfl, fun _ => rfl, fun _ => rfl, fun _ => rfl, fun _ h => absurd h List.not_mem_nil⟩

theorem opcodeRows6_agree : ∀ r ∈ opcodeRows6, r.agrees := by
  simp only [opcodeRows6, List.forall_mem_cons]
  exact ⟨fun _ => rfl, fun _ => rfl, fun _ => rfl, fun _ => rfl, fun _ => rfl, fun _ => rfl, fun _ => rfl, fun _ => rfl,
    fun _ => rfl, fun _ => rfl, fun _ => rfl, fun _ => rfl, fun _ => rfl, fun _ => rfl, fun _ => rfl, fun _ => rfl, fun _ h => absurd h List.not_mem_nil⟩

theorem opcodeRows7_agree : ∀ r ∈ opcodeRows7, r.agrees := by
  simp only [opcodeRows7, List.forall_mem_cons]
  exact ⟨fun _ => rfl, fun _ => rfl, fun _ => rfl, fun _ => rfl, fun _ => rfl, fun _ => rfl, fun _ => rfl, fun _ => rfl,
    fun _ => rfl, fun _ => rfl, fun _ => rfl, fun _ => rfl, fun _ => rfl, fun _ => rfl, fun _ => rfl, fun _ => rfl, fun _ h => absurd h List.not_mem_nil⟩

theorem opcodeRows8_agree : ∀ r ∈ opcodeRows8, r.agrees := by
  simp only [opcodeRows8, List.forall_mem_cons]
  exact ⟨fun _ => rfl, fun _ => rfl, fun _ => rfl, fun _ => rfl, fun _ => rfl, fun _ => rfl, fun _ => rfl, fun _ => rfl,
    fun _ => rfl, fun _ => rfl, fun _ => rfl, fun _ => rfl, fun _ => rfl, fun _ => rfl, fun _ => rfl, fun _ => rfl, fun _ h => absurd h List.not_mem_nil⟩

theorem opcodeRows9_agree : ∀ r ∈ opcodeRows9, r.agrees := by
  simp only [opcodeRows9, List.forall_mem_cons]
  exact ⟨fun _ => rfl, fun _ => rfl, fun _ => rfl, fun _ => rfl, fun _ => rfl, fun _ => rfl, fun _ => rfl, fun _ => rfl,
    fun _ => rfl, fun _ => rfl, fun _ => rfl, fun _ => rfl, fun _ => rfl, fun _ => rfl, fun _ => rfl, fun _ => rfl, fun _ h => absurd h List.not_mem_nil⟩

theorem opcodeRowsA_agree : ∀ r ∈ opcodeRowsA, r.agrees := by
  simp only [opcodeRowsA, List.forall_mem_cons]
  exact ⟨fun _ => rfl, fun _ => rfl, fun _ => rfl, fun _ => rfl, fun _ => rfl, fun _ => rfl, fun _ => rfl, fun _ => rfl,
    fun _ => rfl, fun _ => rfl, fun _ => rfl, fun _ => rfl, fun _ => rfl, fun _ => rfl, fun _ => rfl, fun _ => rfl, fun _ h => absurd h List.not_mem_nil⟩

theorem opcodeRowsB_agree : ∀ r ∈ opcodeRowsB, r.agrees := by
  simp only [opcodeRowsB, List.forall_mem_cons]
  exact ⟨fun _ => rfl, fun _ => rfl, fun _ => rfl, fun _ => rfl, fun _ => rfl, fun _ => rfl, fun _ => rfl, fun _ => rfl,
    fun _ => rfl, fun _ => rfl, fun _ => rfl, fun _ => rfl, fun _ => rfl, fun _ => rfl, fun _ => rfl, fun _ => rfl, fun _ h => absurd h List.not_mem_nil⟩

theorem opcodeRowsC_agree : ∀ r ∈ opcodeRowsC, r.agrees := by
  simp only [opcodeRowsC, List.forall_mem_cons]
  exact ⟨fun _ => rfl, fun _ => rfl, fun _ => rfl, fun _ => rfl, fun _ => rfl, fun _ => rfl, fun _ => rfl, fun _ => rfl,
    fun _ => rfl, fun _ => rfl, fun _ => rfl, fun _ => rfl, fun _ => rfl, fun _ => rfl, fun _ => rfl, fun _ => rfl, fun _ h => absurd h List.not_mem_nil⟩

theorem opcodeRowsD_agree : ∀ r ∈ opcodeRowsD, r.agrees := by
  simp only [opcodeRowsD, List.forall_mem_cons]
  exact ⟨fun _ => rfl, fun _ => rfl, fun _ => rfl, fun _ => rfl, fun _ => rfl, fun _ => rfl, fun _ => rfl, fun _ => rfl,
    fun _ => rfl, fun _ => rfl, fun _ => rfl, fun _ => rfl, fun _ => rfl, fun _ => rfl, fun _ => rfl, fun _ => rfl, fun _ h => absurd h List.not_mem_nil⟩

theorem opcodeRowsE_agree : ∀ r ∈ opcodeRowsE, r.agrees := by
  simp only [opcodeRowsE, List.forall_mem_cons]
  exact ⟨fun _ => rfl, fun _ => rfl, fun _ => rfl, fun _ => rfl, fun _ => rfl, fun _ => rfl, fun _ => rfl, fun _ => rfl,
    fun _ => rfl, fun _ => rfl, fun _ => rfl, fun _ => rfl, fun _ => rfl, fun _ => rfl, fun _ => rfl, fun _ => rfl, fun _ h => absurd h List.not_mem_nil⟩

theorem opcodeRowsF_agree : ∀ r ∈ opcodeRowsF, r.agrees := by
  simp only [opcodeRowsF, List.forall_mem_cons]
  exact ⟨fun _ => rfl, fun _ => rfl, fun _ => rfl, fun _ => rfl, fun _ => rfl, fun _ => rfl, fun _ => rfl, fun _ => rfl,
    fun _ => rfl, fun _ => rfl, fun _ => rfl, fun _ => rfl, fun _ => rfl, fun _ => rfl, fun _ => rfl, fun _ => rfl, fun _ h => absurd h List.not_mem_nil⟩

/-- Every row of the map is the row of its own byte. -/
theorem opcodeRow_opcode (op : Byte) : (opcodeRow op).opcode = op :=
  (by decide +kernel : ∀ x : Fin 256, (opcodeRow (BitVec.ofFin x)).opcode = BitVec.ofFin x) op.toFin

/-- What holds of every row of the map holds of the row of a byte. -/
theorem opcodeRow_of_pages {P : OpRow → Prop} (h : ∀ p ∈ opcodePages, ∀ r ∈ p, P r) (op : Byte) : P (opcodeRow op) :=
  h _ (List.getElem_mem _) _ (List.getElem_mem _)

theorem opcodeRow_agrees (op : Byte) : (opcodeRow op).agrees := by
  apply opcodeRow_of_pages
  simp only [opcodePages, List.forall_mem_cons]
  exact ⟨opcodeRows0_agree, opcodeRows1_agree, opcodeRows2_agree, opcodeRows3_agree, opcodeRows4_agree, opcodeRows5_agree,
    opcodeRows6_agree, opcodeRows7_agree, opcodeRows8_agree, opcodeRows9_agree, opcodeRowsA_agree,
    opcodeRowsB_agree, opcodeRowsC_agree, opcodeRowsD_agree, opcodeRowsE_agree, opcodeRowsF_agree, fun _ h => absurd h List.not_mem_nil⟩

/-! ### OPMAP -/

/-- An exchange of two byte values undoes itself. -/
theorem exchange_exchange (p : Byte × Byte) (b : Byte) : exchange p (exchange p b) = b := by
  unfold exchange
  split_ifs <;> simp_all

/-- The byte a map gives to what a byte stands for is that byte. -/
theorem opByte_tableByte (m : OpMap) (b : Byte) : opByte m (tableByte m b) = b := by
  induction m generalizing b with
  | nil => rfl
  | cons p m ih => rw [tableByte, opByte, exchange_exchange, ih]

/-- What the byte a map gives a row stands for is that row. -/
theorem tableByte_opByte (m : OpMap) (d : Byte) : tableByte m (opByte m d) = d := by
  induction m generalizing d with
  | nil => rfl
  | cons p m ih => rw [tableByte, opByte, ih, exchange_exchange]

/-- Every map is injective (00_scope.md R7). -/
theorem opByte_inj (m : OpMap) {d e : Byte} : opByte m d = opByte m e ↔ d = e :=
  ⟨fun h => by rw [← tableByte_opByte m d, h, tableByte_opByte], congrArg _⟩

/-- One more exchange, made last. -/
theorem opByte_append (m : OpMap) (p : Byte × Byte) (d : Byte) : opByte (m ++ [p]) d = exchange p (opByte m d) := by
  induction m generalizing d with
  | nil => rfl
  | cons q m ih => rw [List.cons_append, opByte, ih, opByte]

/-- Every injective numbering of a set of rows, as of the 107 handled mnemonics, is that of some map (00_scope.md R7, log 26). -/
theorem exists_opMap (f : Byte → Byte) (rows : List Byte) (hn : rows.Nodup)
    (hf : ∀ d ∈ rows, ∀ e ∈ rows, f d = f e → d = e) : ∃ m : OpMap, ∀ d ∈ rows, opByte m d = f d := by
  induction rows with
  | nil => exact ⟨tableMap, fun _ h => absurd h List.not_mem_nil⟩
  | cons d rows ih =>
    obtain ⟨hd, hn⟩ := List.nodup_cons.mp hn
    obtain ⟨m, hm⟩ := ih hn fun a ha b hb => hf a (.tail _ ha) b (.tail _ hb)
    refine ⟨m ++ [(opByte m d, f d)], fun e he => ?_⟩
    rw [opByte_append, exchange]
    cases he with
    | head => exact if_pos rfl
    | tail _ he =>
      have hne : e ≠ d := fun h => hd (h ▸ he)
      rw [if_neg fun h => hne ((opByte_inj m).mp h), hm e he, if_neg fun h => hne (hf e (.tail _ he) d (.head _) h)]

/-! ### The decoder read backwards -/

/-- The encoding row of the instruction that a byte, with an immediate, decodes to under a map. -/
theorem encodingOf_decodeOpcode (m : OpMap) (op : Byte) (imm : Word) :
    encodingOf (decodeOpcode m op imm) = (tableByte m op, immLen m op, if immLen m op = 0 then 0 else imm) := by
  rw [decodeOpcode, opcodeRow_agrees _ imm, opcodeRow_opcode]; rfl

/-- No instruction has more than 32 immediate bytes (30_encoding.md R80). -/
theorem immLen_le (m : OpMap) (op : Byte) : immLen m op ≤ 32 :=
  (by decide +kernel : ∀ x : Fin 256, (opcodeRow (BitVec.ofFin x)).immBytes ≤ 32) (tableByte m op).toFin

end Sys2Proof
end

