-- ==== Sys2Proof/Laws/State.lean ====
section
/-! SUPPORT. One lemma per field per update of State, so that no later proof unfolds a record update. -/

namespace Sys2Proof.Machine

@[simp] theorem replaceTop_stack (p : Nat) (r : List Word) (s : State) : (replaceTop p r s).stack = r ++ s.stack.drop p := rfl
@[simp] theorem replaceTop_pc (p : Nat) (r : List Word) (s : State) : (replaceTop p r s).pc = s.pc := rfl
@[simp] theorem replaceTop_mem (p : Nat) (r : List Word) (s : State) : (replaceTop p r s).mem = s.mem := rfl
@[simp] theorem replaceTop_memLen (p : Nat) (r : List Word) (s : State) : (replaceTop p r s).memLen = s.memLen := rfl
@[simp] theorem replaceTop_code (p : Nat) (r : List Word) (s : State) : (replaceTop p r s).code = s.code := rfl
@[simp] theorem replaceTop_input (p : Nat) (r : List Word) (s : State) : (replaceTop p r s).input = s.input := rfl
@[simp] theorem replaceTop_run (p : Nat) (r : List Word) (s : State) : (replaceTop p r s).run = s.run := rfl
@[simp] theorem replaceTop_cfg (p : Nat) (r : List Word) (s : State) : (replaceTop p r s).cfg = s.cfg := rfl
@[simp] theorem replaceTop_hostAnswers (p : Nat) (r : List Word) (s : State) : (replaceTop p r s).hostAnswers = s.hostAnswers := rfl

@[simp] theorem swapTop_stack (n : Nat) (s : State) : (swapTop n s).stack = (s.stack.set 0 (s.x n)).set n (s.x 0) := rfl
@[simp] theorem swapTop_pc (n : Nat) (s : State) : (swapTop n s).pc = s.pc := rfl
@[simp] theorem swapTop_mem (n : Nat) (s : State) : (swapTop n s).mem = s.mem := rfl
@[simp] theorem swapTop_memLen (n : Nat) (s : State) : (swapTop n s).memLen = s.memLen := rfl
@[simp] theorem swapTop_code (n : Nat) (s : State) : (swapTop n s).code = s.code := rfl
@[simp] theorem swapTop_input (n : Nat) (s : State) : (swapTop n s).input = s.input := rfl
@[simp] theorem swapTop_run (n : Nat) (s : State) : (swapTop n s).run = s.run := rfl
@[simp] theorem swapTop_cfg (n : Nat) (s : State) : (swapTop n s).cfg = s.cfg := rfl
@[simp] theorem swapTop_hostAnswers (n : Nat) (s : State) : (swapTop n s).hostAnswers = s.hostAnswers := rfl

@[simp] theorem apply_advance_pc (n : Nat) (s : State) : (apply (.advance n) s).pc = s.pc + n := rfl
@[simp] theorem apply_advance_run (n : Nat) (s : State) : (apply (.advance n) s).run = .running := rfl
@[simp] theorem apply_jump_pc (t : Nat) (s : State) : (apply (.jump t) s).pc = t := rfl
@[simp] theorem apply_jump_run (t : Nat) (s : State) : (apply (.jump t) s).run = .running := rfl
@[simp] theorem apply_exit_pc (r : Reason) (s : State) : (apply (.exit r) s).pc = s.pc := rfl
@[simp] theorem apply_exit_run (r : Reason) (s : State) : (apply (.exit r) s).run = .exited r := rfl
@[simp] theorem apply_trap_pc (op : Byte) (s : State) : (apply (.trap op) s).pc = s.pc := rfl
@[simp] theorem apply_trap_run (op : Byte) (s : State) : (apply (.trap op) s).run = .trapped op := rfl
@[simp] theorem apply_stack (c : Control) (s : State) : (apply c s).stack = s.stack := by cases c <;> rfl
@[simp] theorem apply_mem (c : Control) (s : State) : (apply c s).mem = s.mem := by cases c <;> rfl
@[simp] theorem apply_memLen (c : Control) (s : State) : (apply c s).memLen = s.memLen := by cases c <;> rfl
@[simp] theorem apply_code (c : Control) (s : State) : (apply c s).code = s.code := by cases c <;> rfl
@[simp] theorem apply_input (c : Control) (s : State) : (apply c s).input = s.input := by cases c <;> rfl
@[simp] theorem apply_cfg (c : Control) (s : State) : (apply c s).cfg = s.cfg := by cases c <;> rfl
@[simp] theorem apply_hostAnswers (c : Control) (s : State) : (apply c s).hostAnswers = s.hostAnswers := by cases c <;> rfl

@[simp] theorem memExpand_stack (a n : Nat) (s : State) : (memExpand a n s).stack = s.stack := by unfold memExpand; split <;> [skip; split] <;> rfl
@[simp] theorem memExpand_pc (a n : Nat) (s : State) : (memExpand a n s).pc = s.pc := by unfold memExpand; split <;> [skip; split] <;> rfl
@[simp] theorem memExpand_code (a n : Nat) (s : State) : (memExpand a n s).code = s.code := by unfold memExpand; split <;> [skip; split] <;> rfl
@[simp] theorem memExpand_input (a n : Nat) (s : State) : (memExpand a n s).input = s.input := by unfold memExpand; split <;> [skip; split] <;> rfl
@[simp] theorem memExpand_run (a n : Nat) (s : State) : (memExpand a n s).run = s.run := by unfold memExpand; split <;> [skip; split] <;> rfl
@[simp] theorem memExpand_cfg (a n : Nat) (s : State) : (memExpand a n s).cfg = s.cfg := by unfold memExpand; split <;> [skip; split] <;> rfl
@[simp] theorem memExpand_hostAnswers (a n : Nat) (s : State) : (memExpand a n s).hostAnswers = s.hostAnswers := by unfold memExpand; split <;> [skip; split] <;> rfl

@[simp] theorem memWrite_stack (a : Nat) (v : List Byte) (s : State) : (memWrite a v s).stack = s.stack := memExpand_stack a v.length s
@[simp] theorem memWrite_pc (a : Nat) (v : List Byte) (s : State) : (memWrite a v s).pc = s.pc := memExpand_pc a v.length s
@[simp] theorem memWrite_code (a : Nat) (v : List Byte) (s : State) : (memWrite a v s).code = s.code := memExpand_code a v.length s
@[simp] theorem memWrite_input (a : Nat) (v : List Byte) (s : State) : (memWrite a v s).input = s.input := memExpand_input a v.length s
@[simp] theorem memWrite_run (a : Nat) (v : List Byte) (s : State) : (memWrite a v s).run = s.run := memExpand_run a v.length s
@[simp] theorem memWrite_cfg (a : Nat) (v : List Byte) (s : State) : (memWrite a v s).cfg = s.cfg := memExpand_cfg a v.length s
@[simp] theorem memWrite_hostAnswers (a : Nat) (v : List Byte) (s : State) : (memWrite a v s).hostAnswers = s.hostAnswers := memExpand_hostAnswers a v.length s
@[simp] theorem memWrite_memLen (a : Nat) (v : List Byte) (s : State) : (memWrite a v s).memLen = (memExpand a v.length s).memLen := rfl
@[simp] theorem memWrite_mem (a : Nat) (v : List Byte) (s : State) : (memWrite a v s).mem = (memExpand a v.length s).mem.writeBytes a v := rfl

@[simp] theorem withFetchWord_stack (s : State) (nbits w : Nat) : (s.withFetchWord nbits w).stack = s.stack := rfl
@[simp] theorem withFetchWord_pc (s : State) (nbits w : Nat) : (s.withFetchWord nbits w).pc = s.pc := rfl
@[simp] theorem withFetchWord_mem (s : State) (nbits w : Nat) : (s.withFetchWord nbits w).mem = s.mem := rfl
@[simp] theorem withFetchWord_memLen (s : State) (nbits w : Nat) : (s.withFetchWord nbits w).memLen = s.memLen := rfl
@[simp] theorem withFetchWord_code (s : State) (nbits w : Nat) : (s.withFetchWord nbits w).code = placeCode s.code s.pc (renumber s.cfg.opmap (tableBytes nbits w)) := rfl
@[simp] theorem withFetchWord_input (s : State) (nbits w : Nat) : (s.withFetchWord nbits w).input = s.input := rfl
@[simp] theorem withFetchWord_run (s : State) (nbits w : Nat) : (s.withFetchWord nbits w).run = .running := rfl
@[simp] theorem withFetchWord_cfg (s : State) (nbits w : Nat) : (s.withFetchWord nbits w).cfg = s.cfg := rfl
@[simp] theorem withFetchWord_hostAnswers (s : State) (nbits w : Nat) : (s.withFetchWord nbits w).hostAnswers = s.hostAnswers := rfl

/-! ### Words of the stack -/

@[simp] theorem x_zero_cons (s : State) (a : Word) (rest : List Word) (h : s.stack = a :: rest) : s.x 0 = a := by simp [State.x, h]

theorem depth_def (s : State) : s.depth = s.stack.length := rfl

theorem x_eq_getElem (s : State) (i : Nat) (h : i < s.stack.length) : s.x i = s.stack[i] := by
  simp [State.x, List.getD_eq_getElem?_getD, h]

end Sys2Proof.Machine
end

