-- ==== Sys2Proof/Laws/Memory.lean ====
section
/-! SUPPORT. The laws of memory: every operation keeps the canonical form, a read after a write gives the value written, a write leaves every
other address alone; and what expansion and MemWrite do to each byte. -/

namespace Sys2Proof.Machine

/-! ### One byte -/

/-- An address below every listed one reads 0. -/
theorem Memory.read_eq_zero_of_lt (m : Memory) (x : Nat) (h : ∀ c ∈ m, x < c.1) : m.read x = 0 := by
  induction m with
  | nil => rfl
  | cons c m ih =>
    have hc := h c (by simp)
    simp only [Memory.read]
    rw [if_neg (by omega), ih fun d hd => h d (by simp [hd])]

/-- An address that is not listed reads 0. -/
theorem Memory.read_eq_zero_of_ne (m : Memory) (x : Nat) (h : ∀ c ∈ m, c.1 ≠ x) : m.read x = 0 := by
  induction m with
  | nil => rfl
  | cons c m ih =>
    simp only [Memory.read]
    rw [if_neg (h c (by simp)), ih fun d hd => h d (by simp [hd])]

theorem Memory.read_write_same (m : Memory) (x : Nat) (v : Byte) (hm : Memory.wf m) : (m.write x v).read x = v := by
  induction m with
  | nil =>
    simp only [Memory.write]
    split
    · rename_i hv; exact hv.symm
    · simp [Memory.read]
  | cons c m ih =>
    obtain ⟨a, b⟩ := c
    have hp := List.pairwise_cons.mp hm.1
    have htail : Memory.wf m := ⟨hp.2, fun d hd => hm.2 d (by simp [hd])⟩
    simp only [Memory.write]
    split
    · rename_i hlt
      split
      · rename_i hv
        rw [hv]
        refine Memory.read_eq_zero_of_lt _ _ fun d hd => ?_
        rcases List.mem_cons.mp hd with rfl | hd
        · exact hlt
        · exact Nat.lt_trans hlt (hp.1 d hd)
      · simp [Memory.read]
    · split
      · rename_i heq
        split
        · rename_i hv
          rw [hv]
          refine Memory.read_eq_zero_of_lt _ _ fun d hd => ?_
          have := hp.1 d hd
          simp only at this
          omega
        · simp [Memory.read]
      · rename_i hne
        simp only [Memory.read]
        rw [if_neg (by omega), ih htail]

theorem Memory.read_write_other (m : Memory) (x y : Nat) (v : Byte) (h : y ≠ x) : (m.write x v).read y = m.read y := by
  induction m with
  | nil =>
    simp only [Memory.write]
    split
    · rfl
    · simp [Memory.read, Ne.symm h]
  | cons c m ih =>
    obtain ⟨a, b⟩ := c
    simp only [Memory.write]
    split
    · split
      · rfl
      · simp [Memory.read, Ne.symm h]
    · split
      · rename_i heq
        have hay : a ≠ y := by omega
        split <;> simp [Memory.read, Ne.symm h, hay]
      · simp only [Memory.read, ih]

/-- Every listed address of a written memory was listed or is the one written. -/
theorem Memory.mem_write (m : Memory) (x : Nat) (v : Byte) (c : Host.Cell) (hc : c ∈ m.write x v) :
    c ∈ m ∨ (c = (x, v) ∧ v ≠ 0) := by
  induction m with
  | nil =>
    simp only [Memory.write] at hc
    split at hc
    · simp at hc
    · rename_i hv; simp at hc; exact .inr ⟨hc, hv⟩
  | cons d m ih =>
    obtain ⟨a, b⟩ := d
    simp only [Memory.write] at hc
    split at hc
    · split at hc
      · exact .inl hc
      · rename_i hv
        rcases List.mem_cons.mp hc with rfl | hc
        · exact .inr ⟨rfl, hv⟩
        · exact .inl hc
    · split at hc
      · split at hc
        · exact .inl (List.mem_cons_of_mem _ hc)
        · rename_i hv
          rcases List.mem_cons.mp hc with rfl | hc
          · exact .inr ⟨rfl, hv⟩
          · exact .inl (List.mem_cons_of_mem _ hc)
      · rcases List.mem_cons.mp hc with rfl | hc
        · exact .inl (by simp)
        · rcases ih hc with h | h
          · exact .inl (List.mem_cons_of_mem _ h)
          · exact .inr h

theorem Memory.wf_write (m : Memory) (x : Nat) (v : Byte) (hm : Memory.wf m) : Memory.wf (m.write x v) := by
  refine ⟨?_, fun c hc => ?_⟩
  · induction m with
    | nil => simp only [Memory.write]; split <;> simp
    | cons d m ih =>
      obtain ⟨a, b⟩ := d
      have hp := List.pairwise_cons.mp hm.1
      have htail : Memory.wf m := ⟨hp.2, fun e he => hm.2 e (by simp [he])⟩
      simp only [Memory.write]
      split
      · rename_i hlt
        split
        · exact hm.1
        · refine List.pairwise_cons.mpr ⟨fun e he => ?_, hm.1⟩
          rcases List.mem_cons.mp he with rfl | he
          · exact hlt
          · exact Nat.lt_trans hlt (hp.1 e he)
      · split
        · rename_i heq
          split
          · exact hp.2
          · refine List.pairwise_cons.mpr ⟨fun e he => ?_, hp.2⟩
            have := hp.1 e he
            simp only at this ⊢
            omega
        · rename_i hlt hne
          refine List.pairwise_cons.mpr ⟨fun e he => ?_, ih htail⟩
          rcases Memory.mem_write m x v e he with he | ⟨rfl, -⟩
          · exact hp.1 e he
          · simp only; omega
  · rcases Memory.mem_write m x v c hc with h | ⟨rfl, hv⟩
    · exact hm.2 c h
    · exact hv

/-! ### Zeroing a tail -/

theorem Memory.wf_zeroFrom (m : Memory) (a : Nat) (hm : Memory.wf m) : Memory.wf (m.zeroFrom a) :=
  ⟨hm.1.filter _, fun c hc => hm.2 c (List.mem_filter.mp hc).1⟩

theorem Memory.zeroFrom_inside (m : Memory) (a : Nat) (c : Host.Cell) (hc : c ∈ m.zeroFrom a) : c.1 < a := by
  simpa using (List.mem_filter.mp hc).2

theorem Memory.read_zeroFrom (m : Memory) (a x : Nat) : (m.zeroFrom a).read x = if x < a then m.read x else 0 := by
  induction m with
  | nil => simp [Memory.zeroFrom, Memory.read]
  | cons c m ih =>
    obtain ⟨b, v⟩ := c
    unfold Memory.zeroFrom at ih ⊢
    rw [List.filter_cons]
    by_cases hb : b < a
    · simp only [hb, decide_true, if_true, Memory.read, ih]
      by_cases hx : b = x
      · subst hx; simp [hb]
      · simp [hx]
    · simp only [hb, decide_false, Memory.read]
      rw [if_neg (by simp), ih]
      by_cases hx : b = x
      · subst hx; simp [hb]
      · simp [hx]

/-! ### Many bytes -/

theorem Memory.wf_writeBytes (bs : List Byte) : ∀ (m : Memory) (a : Nat), Memory.wf m → Memory.wf (m.writeBytes a bs) := by
  induction bs with
  | nil => exact fun m a h => h
  | cons b bs ih => exact fun m a h => ih _ _ (Memory.wf_write m a b h)

theorem Memory.writeBytes_inside (bs : List Byte) : ∀ (m : Memory) (a n : Nat), (∀ c ∈ m, c.1 < n) → a + bs.length ≤ n →
    ∀ c ∈ m.writeBytes a bs, c.1 < n := by
  induction bs with
  | nil => exact fun m a n h _ => h
  | cons b bs ih =>
    intro m a n h hle
    simp only [List.length_cons] at hle
    refine ih _ _ _ (fun c hc => ?_) (by omega)
    rcases Memory.mem_write m a b c hc with hc | ⟨rfl, -⟩
    · exact h c hc
    · simp only; omega

/-- A byte after a run of bytes is written: the one written there, or the old one. -/
theorem Memory.read_writeBytes (bs : List Byte) : ∀ (m : Memory) (a x : Nat), Memory.wf m →
    (m.writeBytes a bs).read x = if a ≤ x ∧ x < a + bs.length then bs.getD (x - a) 0 else m.read x := by
  induction bs with
  | nil => intro m a x _; simp only [Memory.writeBytes, List.length_nil]; rw [if_neg (by omega)]
  | cons b bs ih =>
    intro m a x hm
    simp only [Memory.writeBytes, List.length_cons]
    rw [ih _ _ _ (Memory.wf_write m a b hm)]
    by_cases h1 : x = a
    · subst h1
      rw [if_neg (by omega), if_pos (by omega), Memory.read_write_same m x b hm]
      simp
    · rw [Memory.read_write_other m a x b h1]
      by_cases h2 : a ≤ x ∧ x < a + (bs.length + 1)
      · rw [if_pos (by omega), if_pos h2, show x - a = (x - (a + 1)) + 1 by omega, List.getD_cons_succ]
      · rw [if_neg (by omega), if_neg h2]

@[simp] theorem Memory.readBytes_length (m : Memory) (n : Nat) : ∀ a, (m.readBytes a n).length = n := by
  induction n with
  | zero => exact fun _ => rfl
  | succ n ih => exact fun a => by simp [Memory.readBytes, ih]

theorem Memory.readBytes_getD (m : Memory) (n : Nat) : ∀ a j, j < n → (m.readBytes a n).getD j 0 = m.read (a + j) := by
  induction n with
  | zero => intro a j h; omega
  | succ n ih =>
    intro a j h
    cases j with
    | zero => simp [Memory.readBytes]
    | succ j =>
      simp only [Memory.readBytes, List.getD_cons_succ]
      rw [ih (a + 1) j (by omega)]
      congr 1
      omega

@[simp] theorem bufferRead_length (buf : List Byte) (n : Nat) : ∀ off, (bufferRead buf off n).length = n := by
  induction n with
  | zero => exact fun _ => rfl
  | succ n ih => exact fun off => by simp [bufferRead, ih]

theorem bufferRead_getD (buf : List Byte) (n : Nat) : ∀ off j, j < n → (bufferRead buf off n).getD j 0 = buf.getD (off + j) 0 := by
  induction n with
  | zero => intro off j h; omega
  | succ n ih =>
    intro off j h
    cases j with
    | zero => simp [bufferRead]
    | succ j =>
      simp only [bufferRead, List.getD_cons_succ]
      rw [ih (off + 1) j (by omega)]
      congr 1
      omega

@[simp] theorem beBytes_length (k : Nat) (w : Word) : (beBytes k w).length = k := by
  induction k with
  | zero => rfl
  | succ k ih => simp [beBytes, ih]

@[simp] theorem bytesBE_length (w : Word) : (bytesBE w).length = 32 := beBytes_length 32 w

/-- The `j`-th byte of the low `k` bytes of a word. -/
theorem beBytes_getD (k : Nat) (w : Word) : ∀ j, j < k → (beBytes k w).getD j 0 = w.extractLsb' (8 * (k - 1 - j)) 8 := by
  induction k with
  | zero => intro j h; omega
  | succ k ih =>
    intro j h
    cases j with
    | zero => simp [beBytes]
    | succ j =>
      simp only [beBytes, List.getD_cons_succ]
      rw [ih j (by omega)]
      congr 2
      omega

/-! ### Big-endian numbers -/

theorem beNatFrom_eq (bs : List Byte) : ∀ acc, beNatFrom acc bs = acc * 256 ^ bs.length + beNat bs := by
  induction bs with
  | nil => intro acc; simp [beNatFrom, beNat]
  | cons b bs ih =>
    intro acc
    rw [beNatFrom, ih, show beNat (b :: bs) = beNatFrom (0 * 256 + b.toNat) bs from rfl, ih (0 * 256 + b.toNat), List.length_cons,
      Nat.pow_succ, Nat.zero_mul, Nat.zero_add, Nat.add_mul, Nat.mul_assoc, Nat.mul_comm 256, Nat.add_assoc]

/-- A byte sequence denotes a number below `256 ^ length`. -/
theorem beNat_lt (bs : List Byte) : beNat bs < 256 ^ bs.length := by
  induction bs with
  | nil => decide
  | cons b bs ih =>
    rw [show beNat (b :: bs) = beNatFrom (0 * 256 + b.toNat) bs from rfl, beNatFrom_eq, List.length_cons, Nat.pow_succ]
    have h := Nat.mul_le_mul_right (256 ^ bs.length) (show b.toNat ≤ 255 by have := b.isLt; omega)
    rw [Nat.zero_mul, Nat.zero_add]
    omega

/-- Byte `j` of a sequence is digit `j` from the top, base 256, of the number it denotes. -/
theorem beNat_digit (bs : List Byte) : ∀ j, j < bs.length → beNat bs / 256 ^ (bs.length - 1 - j) % 256 = (bs.getD j 0).toNat := by
  induction bs with
  | nil => intro j h; exact absurd h (Nat.not_lt_zero j)
  | cons b bs ih =>
    intro j h
    have hb := beNat_lt bs
    rw [show beNat (b :: bs) = beNatFrom (0 * 256 + b.toNat) bs from rfl, beNatFrom_eq, Nat.zero_mul, Nat.zero_add]
    cases j with
    | zero =>
      simp only [List.length_cons, Nat.add_sub_cancel, Nat.sub_zero, List.getD_cons_zero]
      rw [Nat.mul_comm, Nat.mul_add_div (Nat.pow_pos (by decide)), Nat.div_eq_of_lt hb, Nat.add_zero, Nat.mod_eq_of_lt b.isLt]
    | succ j =>
      have hj : j < bs.length := by simpa using h
      simp only [List.length_cons, List.getD_cons_succ]
      rw [← ih j hj, show bs.length + 1 - 1 - (j + 1) = bs.length - 1 - j by omega]
      have hd : bs.length = (bs.length - 1 - j) + (j + 1) := by omega
      generalize bs.length - 1 - j = m at hd
      rw [hd, Nat.pow_add, Nat.mul_left_comm, Nat.mul_add_div (Nat.pow_pos (by decide)), Nat.pow_succ, ← Nat.mul_assoc,
        Nat.mul_add_mod_self_right]

/-- The bytes of a word read from 32 bytes are those bytes, most significant first (20_memory.md R52). -/
theorem beWord_byte (bs : List Byte) (h : bs.length = 32) (j : Nat) (hj : j < 32) :
    (beWord bs).extractLsb' (248 - 8 * j) 8 = bs.getD j 0 := by
  apply BitVec.eq_of_toNat_eq
  have hl := beNat_lt bs
  have hd := beNat_digit bs j (by omega)
  rw [h] at hl hd
  rw [BitVec.extractLsb'_toNat, beWord, BitVec.toNat_ofNat, Nat.mod_eq_of_lt (show beNat bs < 2 ^ 256 from hl), Nat.shiftRight_eq_div_pow,
    ← hd, show 248 - 8 * j = 8 * (32 - 1 - j) by omega, Nat.pow_mul]

/-- Two words with the same 32 bytes are equal. -/
theorem word_eq_of_bytes (a b : Word) (h : ∀ j, j < 32 → a.extractLsb' (248 - 8 * j) 8 = b.extractLsb' (248 - 8 * j) 8) : a = b := by
  apply BitVec.eq_of_getLsbD_eq
  intro i hi
  have := congrArg (fun w => w.getLsbD (i % 8)) (h (31 - i / 8) (by omega))
  simpa [BitVec.getLsbD_extractLsb', Nat.mod_lt, show 248 - 8 * (31 - i / 8) + i % 8 = i by omega] using this

/-! ### Expansion and MemWrite -/

theorem le_ceil32 (n : Nat) : n ≤ ceil32 n := by simp only [ceil32, memGranule]; omega

theorem ceil32_mod (n : Nat) : ceil32 n % 32 = 0 := by simp only [ceil32, memGranule]; omega

/-- `ceil32 n` is the least multiple of 32 that is at least `n`. -/
theorem ceil32_le (n l : Nat) (hl : l % 32 = 0) (h : n ≤ l) : ceil32 n ≤ l := by simp only [ceil32, memGranule]; omega

theorem memExpand_memLen (a n : Nat) (s : State) :
    (memExpand a n s).memLen = if n ≠ 0 ∧ s.memLen < a + n then ceil32 (a + n) else s.memLen := by
  unfold memExpand
  by_cases h0 : n = 0
  · simp [h0]
  · by_cases h1 : a + n > s.memLen
    · simp [h0, h1]
    · simp [h0, h1]

theorem memExpand_covers (a n : Nat) (s : State) (h : n ≠ 0) : a + n ≤ (memExpand a n s).memLen := by
  rw [memExpand_memLen]
  split
  · exact le_ceil32 _
  · omega

theorem memLen_le_memExpand (a n : Nat) (s : State) : s.memLen ≤ (memExpand a n s).memLen := by
  rw [memExpand_memLen]
  split
  · have := le_ceil32 (a + n); omega
  · exact Nat.le_refl _

/-- Expansion leaves every byte as it was where memory lists nothing at or above `memLen`. -/
theorem memExpand_read (a n x : Nat) (s : State) (h : ∀ c ∈ s.mem, c.1 < s.memLen) :
    (memExpand a n s).mem.read x = s.mem.read x := by
  unfold memExpand
  split
  · rfl
  · split
    · simp only
      rw [Memory.read_zeroFrom]
      split
      · rfl
      · rename_i hx
        exact (Memory.read_eq_zero_of_ne _ _ fun c hc => by have := h c hc; omega).symm
    · rfl

theorem memExpand_inv (a n : Nat) (s : State) (h : Inv s) (hr : n ≠ 0 → a + n ≤ s.cfg.memLimit) : Inv (memExpand a n s) := by
  have hmem : Memory.wf (memExpand a n s).mem ∧ ∀ c ∈ (memExpand a n s).mem, c.1 < (memExpand a n s).memLen := by
    unfold memExpand
    split
    · exact ⟨h.memForm, h.memInside⟩
    · split
      · rename_i hgt
        refine ⟨Memory.wf_zeroFrom _ _ h.memForm, fun c hc => ?_⟩
        have h1 := Memory.zeroFrom_inside _ _ c hc
        have h2 := le_ceil32 (a + n)
        simp only
        omega
      · exact ⟨h.memForm, h.memInside⟩
  refine ⟨by simpa using h.stack, ?_, ?_, hmem.1, hmem.2, by simpa using h.code, by simpa using h.input, by simpa using h.pc, by simpa using h.cfg⟩
  · rw [memExpand_memLen]
    split
    · exact ceil32_mod _
    · exact h.granular
  · rw [memExpand_memLen, memExpand_cfg]
    split
    · rename_i hc; exact ceil32_le _ _ h.cfg.1 (hr hc.1)
    · exact h.bounded

/-- What MemWrite does to each byte of a good state. -/
theorem memWrite_read (a x : Nat) (v : List Byte) (s : State) (h : Inv s) (hr : v.length ≠ 0 → a + v.length ≤ s.cfg.memLimit) :
    (memWrite a v s).mem.read x = if a ≤ x ∧ x < a + v.length then v.getD (x - a) 0 else s.mem.read x := by
  rw [memWrite_mem, Memory.read_writeBytes _ _ _ _ (memExpand_inv a v.length s h hr).memForm, memExpand_read _ _ _ _ h.memInside]

theorem memWrite_inv (a : Nat) (v : List Byte) (s : State) (h : Inv s) (hr : v.length ≠ 0 → a + v.length ≤ s.cfg.memLimit) :
    Inv (memWrite a v s) := by
  have he := memExpand_inv a v.length s h hr
  refine ⟨he.stack, he.granular, he.bounded, Memory.wf_writeBytes _ _ _ he.memForm, ?_, he.code, he.input, he.pc, he.cfg⟩
  by_cases hv : v.length = 0
  · rw [List.length_eq_zero_iff.mp hv]
    exact (memExpand_inv a 0 s h (by simp)).memInside
  · exact Memory.writeBytes_inside _ _ _ _ he.memInside (memExpand_covers a v.length s hv)

theorem reset_mem_wf : Memory.wf State.reset.mem := by decide

end Sys2Proof.Machine
end

