-- ==== Sys2Proof/Laws/Ops.lean ====
section
/-! SUPPORT. One lemma per shared operation that says everything it can do; callers cite it rather than unfold the operation. Every handler ends
in a next state: an error (`raise`), or the context it leaves with its control effect applied. -/

namespace Sys2Proof.Machine

/-! ### Ends of a handler -/

theorem raise_eq (e : ErrorReason) (s : State) : raise e s = .next { s with run := .exited (.error e) } := rfl

theorem trapTo_eq (op : Byte) (s : State) : trapTo op s = .next { s with run := .trapped op } := rfl

theorem trapRow_eq (row : Byte) (s : State) : trapRow row s = .next { s with run := .trapped (opByte s.cfg.opmap row) } := rfl

theorem finish_eq (c : Control) (s : State) : finish c s = .next (apply c s) := rfl

/-! ### Checks -/

theorem stackError_underflow {need p q depth : Nat} (h : depth < need) : stackError need p q depth = some .stackUnderflow := by
  simp [stackError, h]

theorem stackError_overflow {need p q depth : Nat} (h : need ≤ depth) (ho : depth - p + q > 1024) :
    stackError need p q depth = some .stackOverflow := by
  simp [stackError, Nat.not_lt.mpr h, stackLimit, ho]

theorem stackError_none {need p q depth : Nat} (h : need ≤ depth) (ho : depth - p + q ≤ 1024) : stackError need p q depth = none := by
  simp [stackError, Nat.not_lt.mpr h, stackLimit, Nat.not_lt.mpr ho]

theorem checked_underflow {need p q : Nat} {s : State} {k : Unit → Result} (h : s.stack.length < need) :
    checked need p q s k = raise .stackUnderflow s := by
  simp only [checked, depth_def, stackError_underflow h]

theorem checked_overflow {need p q : Nat} {s : State} {k : Unit → Result} (h : need ≤ s.stack.length)
    (ho : s.stack.length - p + q > 1024) : checked need p q s k = raise .stackOverflow s := by
  simp only [checked, depth_def, stackError_overflow h ho]

theorem checked_pass {need p q : Nat} {s : State} {k : Unit → Result} (h : need ≤ s.stack.length)
    (ho : s.stack.length - p + q ≤ 1024) : checked need p q s k = k () := by
  simp only [checked, depth_def, stackError_none h ho]

/-- The three outcomes of the common stack checks (40_dispatch.md R103). -/
theorem checked_cases (need p q : Nat) (s : State) (k : Unit → Result) :
    (s.stack.length < need ∧ checked need p q s k = raise .stackUnderflow s) ∨
    (need ≤ s.stack.length ∧ 1024 < s.stack.length - p + q ∧ checked need p q s k = raise .stackOverflow s) ∨
    (need ≤ s.stack.length ∧ s.stack.length - p + q ≤ 1024 ∧ checked need p q s k = k ()) := by
  by_cases h : s.stack.length < need
  · exact .inl ⟨h, checked_underflow h⟩
  · by_cases ho : s.stack.length - p + q > 1024
    · exact .inr (.inl ⟨by omega, ho, checked_overflow (by omega) ho⟩)
    · exact .inr (.inr ⟨by omega, by omega, checked_pass (by omega) (by omega)⟩)

theorem ranged_fail {addr n : Nat} {s : State} {k : Unit → Result} (h0 : n ≠ 0) (h : addr + n > s.cfg.memLimit) :
    ranged addr n s k = raise (oversize s.cfg) s := by
  simp [ranged, rangeError, h0, h]

theorem ranged_pass {addr n : Nat} {s : State} {k : Unit → Result} (h : n ≠ 0 → addr + n ≤ s.cfg.memLimit) :
    ranged addr n s k = k () := by
  by_cases h0 : n = 0
  · simp [ranged, rangeError, h0]
  · have := h h0
    simp [ranged, rangeError, h0, Nat.not_lt.mpr this]

/-- The two outcomes of the range test (20_memory.md R56, R62). -/
theorem ranged_cases (addr n : Nat) (s : State) (k : Unit → Result) :
    (n ≠ 0 ∧ s.cfg.memLimit < addr + n ∧ ranged addr n s k = raise (oversize s.cfg) s) ∨
    ((n ≠ 0 → addr + n ≤ s.cfg.memLimit) ∧ ranged addr n s k = k ()) := by
  by_cases h : n ≠ 0 ∧ s.cfg.memLimit < addr + n
  · exact .inl ⟨h.1, h.2, ranged_fail h.1 h.2⟩
  · have h' : n ≠ 0 → addr + n ≤ s.cfg.memLimit := fun h0 => by
      by_contra hc
      exact h ⟨h0, by omega⟩
    exact .inr ⟨h', ranged_pass h'⟩

theorem oversize_eq (c : Config) : oversize c = .invalidRange ∨ oversize c = .other () := by
  unfold oversize; split <;> simp

/-! ### Shapes of meanings -/

/-- What a one-operand instruction can answer. -/
theorem unary_next {f : Word → Word} {s t : State} (h : unary f s = .next t) :
    t = { s with run := .exited (.error .stackUnderflow) } ∧ s.stack.length < 1 ∨
    t = { s with run := .exited (.error .stackOverflow) } ∧ 1024 < s.stack.length - 1 + 1 ∨
    t = { s with stack := f (s.x 0) :: s.stack.drop 1, pc := s.pc + 1, run := .running } ∧ 1 ≤ s.stack.length ∧
      s.stack.length - 1 + 1 ≤ 1024 := by
  rcases checked_cases 1 1 1 s fun _ => finish (.advance 1) (replaceTop 1 [f (s.x 0)] s) with ⟨a, b⟩ | ⟨a, b, c⟩ | ⟨a, b, c⟩
  · rw [unary, b] at h; cases h; exact .inl ⟨rfl, a⟩
  · rw [unary, c] at h; cases h; exact .inr (.inl ⟨rfl, b⟩)
  · rw [unary, c] at h; cases h; exact .inr (.inr ⟨rfl, a, b⟩)

/-- What a two-operand instruction can answer. -/
theorem binary_next {f : Word → Word → Word} {s t : State} (h : binary f s = .next t) :
    t = { s with run := .exited (.error .stackUnderflow) } ∧ s.stack.length < 2 ∨
    t = { s with run := .exited (.error .stackOverflow) } ∧ 1024 < s.stack.length - 2 + 1 ∨
    t = { s with stack := f (s.x 0) (s.x 1) :: s.stack.drop 2, pc := s.pc + 1, run := .running } ∧ 2 ≤ s.stack.length ∧
      s.stack.length - 2 + 1 ≤ 1024 := by
  rcases checked_cases 2 2 1 s fun _ => finish (.advance 1) (replaceTop 2 [f (s.x 0) (s.x 1)] s) with ⟨a, b⟩ | ⟨a, b, c⟩ | ⟨a, b, c⟩
  · rw [binary, b] at h; cases h; exact .inl ⟨rfl, a⟩
  · rw [binary, c] at h; cases h; exact .inr (.inl ⟨rfl, b⟩)
  · rw [binary, c] at h; cases h; exact .inr (.inr ⟨rfl, a, b⟩)

/-- What a three-operand instruction can answer. -/
theorem ternary_next {f : Word → Word → Word → Word} {s t : State} (h : ternary f s = .next t) :
    t = { s with run := .exited (.error .stackUnderflow) } ∧ s.stack.length < 3 ∨
    t = { s with run := .exited (.error .stackOverflow) } ∧ 1024 < s.stack.length - 3 + 1 ∨
    t = { s with stack := f (s.x 0) (s.x 1) (s.x 2) :: s.stack.drop 3, pc := s.pc + 1, run := .running } ∧ 3 ≤ s.stack.length ∧
      s.stack.length - 3 + 1 ≤ 1024 := by
  rcases checked_cases 3 3 1 s fun _ => finish (.advance 1) (replaceTop 3 [f (s.x 0) (s.x 1) (s.x 2)] s) with
    ⟨a, b⟩ | ⟨a, b, c⟩ | ⟨a, b, c⟩
  · rw [ternary, b] at h; cases h; exact .inl ⟨rfl, a⟩
  · rw [ternary, c] at h; cases h; exact .inr (.inl ⟨rfl, b⟩)
  · rw [ternary, c] at h; cases h; exact .inr (.inr ⟨rfl, a, b⟩)

/-- What an instruction that pushes one word can answer. -/
theorem pushWord_next {len : Nat} {w : Word} {s t : State} (h : pushWord len w s = .next t) :
    t = { s with run := .exited (.error .stackOverflow) } ∧ 1024 < s.stack.length + 1 ∨
    t = { s with stack := w :: s.stack, pc := s.pc + len, run := .running } ∧ s.stack.length + 1 ≤ 1024 := by
  rcases checked_cases 0 0 1 s fun _ => finish (.advance len) (replaceTop 0 [w] s) with ⟨a, b⟩ | ⟨a, b, c⟩ | ⟨a, b, c⟩
  · omega
  · rw [pushWord, c] at h; cases h; exact .inl ⟨rfl, b⟩
  · rw [pushWord, c] at h; cases h; exact .inr ⟨rfl, b⟩

/-- What PUSH-k can answer. -/
theorem pushImm_next {k : Nat} {w : Word} {s t : State} (h : pushImm k w s = .next t) :
    t = { s with run := .exited (.error .stackOverflow) } ∧ 1024 < s.stack.length + 1 ∨
    t = { s with stack := w :: s.stack, pc := s.pc + (k + 1), run := .running } ∧ s.stack.length + 1 ≤ 1024 :=
  pushWord_next h

/-- What DUP-n can answer. -/
theorem dup_next {n : Nat} {s t : State} (h : dup n s = .next t) :
    t = { s with run := .exited (.error .stackUnderflow) } ∧ s.stack.length < n ∨
    t = { s with run := .exited (.error .stackOverflow) } ∧ n ≤ s.stack.length ∧ 1024 < s.stack.length + 1 ∨
    t = { s with stack := s.x (n - 1) :: s.stack, pc := s.pc + 1, run := .running } ∧ n ≤ s.stack.length ∧
      s.stack.length + 1 ≤ 1024 := by
  rcases checked_cases n 0 1 s fun _ => finish (.advance 1) (replaceTop 0 [s.x (n - 1)] s) with ⟨a, b⟩ | ⟨a, b, c⟩ | ⟨a, b, c⟩
  · rw [dup, b] at h; cases h; exact .inl ⟨rfl, a⟩
  · rw [dup, c] at h; cases h; exact .inr (.inl ⟨rfl, a, b⟩)
  · rw [dup, c] at h; cases h; exact .inr (.inr ⟨rfl, a, b⟩)

/-- What SWAP-n can answer. -/
theorem swap_next {n : Nat} {s t : State} (h : swap n s = .next t) :
    t = { s with run := .exited (.error .stackUnderflow) } ∧ s.stack.length < n + 1 ∨
    t = { s with run := .exited (.error .stackOverflow) } ∧ n + 1 ≤ s.stack.length ∧ 1024 < s.stack.length ∨
    t = { s with stack := (s.stack.set 0 (s.x n)).set n (s.x 0), pc := s.pc + 1, run := .running } ∧ n + 1 ≤ s.stack.length ∧
      s.stack.length ≤ 1024 := by
  rcases checked_cases (n + 1) 0 0 s fun _ => finish (.advance 1) (swapTop n s) with ⟨a, b⟩ | ⟨a, b, c⟩ | ⟨a, b, c⟩
  · rw [swap, b] at h; cases h; exact .inl ⟨rfl, a⟩
  · rw [swap, c] at h; cases h; exact .inr (.inl ⟨rfl, a, b⟩)
  · rw [swap, c] at h; cases h; exact .inr (.inr ⟨rfl, a, b⟩)

/-- What CALLDATACOPY and CODECOPY can answer. -/
theorem copyToMemory_next {read : Nat → Nat → List Byte} {s t : State} (h : copyToMemory read s = .next t) :
    t = { s with run := .exited (.error .stackUnderflow) } ∧ s.stack.length < 3 ∨
    t = { s with run := .exited (.error .stackOverflow) } ∧ 1024 < s.stack.length - 3 ∨
    t = { s with run := .exited (.error (oversize s.cfg)) } ∧ 3 ≤ s.stack.length ∧ s.stack.length - 3 ≤ 1024 ∧ (s.x 2).toNat ≠ 0 ∧
      s.cfg.memLimit < (s.x 0).toNat + (s.x 2).toNat ∨
    t = apply (.advance 1) (replaceTop 3 [] (memWrite (s.x 0).toNat (read (s.x 1).toNat (s.x 2).toNat) s)) ∧ 3 ≤ s.stack.length ∧
      s.stack.length - 3 ≤ 1024 ∧
      ((s.x 2).toNat ≠ 0 → (s.x 0).toNat + (s.x 2).toNat ≤ s.cfg.memLimit) := by
  unfold copyToMemory at h
  rcases checked_cases 3 3 0 s _ with ⟨a, b⟩ | ⟨a, b, c⟩ | ⟨a, b, c⟩
  · rw [b] at h; cases h; exact .inl ⟨rfl, a⟩
  · rw [c] at h; cases h; exact .inr (.inl ⟨rfl, b⟩)
  · rw [c] at h
    rcases ranged_cases (s.x 0).toNat (s.x 2).toNat s _ with ⟨d, e, f⟩ | ⟨d, e⟩
    · rw [f] at h; cases h; exact .inr (.inr (.inl ⟨rfl, a, b, d, e⟩))
    · rw [e] at h; cases h; exact .inr (.inr (.inr ⟨rfl, a, b, d⟩))

/-- What RETURN and REVERT can answer. -/
theorem exitWithBytes_next {reason : List Byte → Reason} {s t : State} (h : exitWithBytes reason s = .next t) :
    t = { s with run := .exited (.error .stackUnderflow) } ∧ s.stack.length < 2 ∨
    t = { s with run := .exited (.error .stackOverflow) } ∧ 1024 < s.stack.length - 2 ∨
    t = { s with run := .exited (.error (oversize s.cfg)) } ∧ 2 ≤ s.stack.length ∧ s.stack.length - 2 ≤ 1024 ∧ (s.x 1).toNat ≠ 0 ∧
      s.cfg.memLimit < (s.x 0).toNat + (s.x 1).toNat ∨
    t = apply (.exit (reason (memBytes (s.x 0).toNat (s.x 1).toNat s))) (replaceTop 2 [] (memExpand (s.x 0).toNat (s.x 1).toNat s)) ∧
      2 ≤ s.stack.length ∧ s.stack.length - 2 ≤ 1024 ∧ ((s.x 1).toNat ≠ 0 → (s.x 0).toNat + (s.x 1).toNat ≤ s.cfg.memLimit) := by
  unfold exitWithBytes at h
  rcases checked_cases 2 2 0 s _ with ⟨a, b⟩ | ⟨a, b, c⟩ | ⟨a, b, c⟩
  · rw [b] at h; cases h; exact .inl ⟨rfl, a⟩
  · rw [c] at h; cases h; exact .inr (.inl ⟨rfl, b⟩)
  · rw [c] at h
    rcases ranged_cases (s.x 0).toNat (s.x 1).toNat s _ with ⟨d, e, f⟩ | ⟨d, e⟩
    · rw [f] at h; cases h; exact .inr (.inr (.inl ⟨rfl, a, b, d, e⟩))
    · rw [e] at h; cases h; exact .inr (.inr (.inr ⟨rfl, a, b, d⟩))

/-- What POP can answer. -/
theorem execPop_next {s t : State} (h : execPop s = .next t) :
    t = { s with run := .exited (.error .stackUnderflow) } ∧ s.stack.length < 1 ∨
    t = { s with run := .exited (.error .stackOverflow) } ∧ 1024 < s.stack.length - 1 ∨
    t = { s with stack := s.stack.drop 1, pc := s.pc + 1, run := .running } ∧ 1 ≤ s.stack.length ∧ s.stack.length - 1 ≤ 1024 := by
  unfold execPop at h
  rcases checked_cases 1 1 0 s _ with ⟨a, b⟩ | ⟨a, b, c⟩ | ⟨a, b, c⟩
  · rw [b] at h; cases h; exact .inl ⟨rfl, a⟩
  · rw [c] at h; cases h; exact .inr (.inl ⟨rfl, b⟩)
  · rw [c] at h; cases h; exact .inr (.inr ⟨rfl, a, b⟩)

/-- What MLOAD can answer. -/
theorem execMload_next {s t : State} (h : execMload s = .next t) :
    t = { s with run := .exited (.error .stackUnderflow) } ∧ s.stack.length < 1 ∨
    t = { s with run := .exited (.error .stackOverflow) } ∧ 1024 < s.stack.length - 1 + 1 ∨
    t = { s with run := .exited (.error (oversize s.cfg)) } ∧ 1 ≤ s.stack.length ∧ s.stack.length - 1 + 1 ≤ 1024 ∧
      s.cfg.memLimit < (s.x 0).toNat + 32 ∨
    t = apply (.advance 1) (replaceTop 1 [beWord (memBytes (s.x 0).toNat 32 s)] (memExpand (s.x 0).toNat 32 s)) ∧ 1 ≤ s.stack.length ∧
      s.stack.length - 1 + 1 ≤ 1024 ∧ (s.x 0).toNat + 32 ≤ s.cfg.memLimit := by
  unfold execMload at h
  rcases checked_cases 1 1 1 s _ with ⟨a, b⟩ | ⟨a, b, c⟩ | ⟨a, b, c⟩
  · rw [b] at h; cases h; exact .inl ⟨rfl, a⟩
  · rw [c] at h; cases h; exact .inr (.inl ⟨rfl, b⟩)
  · rw [c] at h
    rcases ranged_cases (s.x 0).toNat 32 s _ with ⟨d, e, f⟩ | ⟨d, e⟩
    · rw [f] at h; cases h; exact .inr (.inr (.inl ⟨rfl, a, b, e⟩))
    · rw [e] at h; cases h; exact .inr (.inr (.inr ⟨rfl, a, b, d (by decide)⟩))

/-- What MSTORE can answer. -/
theorem execMstore_next {s t : State} (h : execMstore s = .next t) :
    t = { s with run := .exited (.error .stackUnderflow) } ∧ s.stack.length < 2 ∨
    t = { s with run := .exited (.error .stackOverflow) } ∧ 1024 < s.stack.length - 2 ∨
    t = { s with run := .exited (.error (oversize s.cfg)) } ∧ 2 ≤ s.stack.length ∧ s.stack.length - 2 ≤ 1024 ∧
      s.cfg.memLimit < (s.x 0).toNat + 32 ∨
    t = apply (.advance 1) (replaceTop 2 [] (memWrite (s.x 0).toNat (bytesBE (s.x 1)) s)) ∧ 2 ≤ s.stack.length ∧
      s.stack.length - 2 ≤ 1024 ∧ (s.x 0).toNat + 32 ≤ s.cfg.memLimit := by
  unfold execMstore at h
  rcases checked_cases 2 2 0 s _ with ⟨a, b⟩ | ⟨a, b, c⟩ | ⟨a, b, c⟩
  · rw [b] at h; cases h; exact .inl ⟨rfl, a⟩
  · rw [c] at h; cases h; exact .inr (.inl ⟨rfl, b⟩)
  · rw [c] at h
    rcases ranged_cases (s.x 0).toNat 32 s _ with ⟨d, e, f⟩ | ⟨d, e⟩
    · rw [f] at h; cases h; exact .inr (.inr (.inl ⟨rfl, a, b, e⟩))
    · rw [e] at h; cases h; exact .inr (.inr (.inr ⟨rfl, a, b, d (by decide)⟩))

/-- What MSTORE8 can answer. -/
theorem execMstore8_next {s t : State} (h : execMstore8 s = .next t) :
    t = { s with run := .exited (.error .stackUnderflow) } ∧ s.stack.length < 2 ∨
    t = { s with run := .exited (.error .stackOverflow) } ∧ 1024 < s.stack.length - 2 ∨
    t = { s with run := .exited (.error (oversize s.cfg)) } ∧ 2 ≤ s.stack.length ∧ s.stack.length - 2 ≤ 1024 ∧
      s.cfg.memLimit < (s.x 0).toNat + 1 ∨
    t = apply (.advance 1) (replaceTop 2 [] (memWrite (s.x 0).toNat [(s.x 1).extractLsb' 0 8] s)) ∧ 2 ≤ s.stack.length ∧
      s.stack.length - 2 ≤ 1024 ∧ (s.x 0).toNat + 1 ≤ s.cfg.memLimit := by
  unfold execMstore8 at h
  rcases checked_cases 2 2 0 s _ with ⟨a, b⟩ | ⟨a, b, c⟩ | ⟨a, b, c⟩
  · rw [b] at h; cases h; exact .inl ⟨rfl, a⟩
  · rw [c] at h; cases h; exact .inr (.inl ⟨rfl, b⟩)
  · rw [c] at h
    rcases ranged_cases (s.x 0).toNat 1 s _ with ⟨d, e, f⟩ | ⟨d, e⟩
    · rw [f] at h; cases h; exact .inr (.inr (.inl ⟨rfl, a, b, e⟩))
    · rw [e] at h; cases h; exact .inr (.inr (.inr ⟨rfl, a, b, d (by decide)⟩))

/-- What a jump can answer. -/
theorem jumpTo_next {w : Word} {p : Nat} {s t : State} (h : jumpTo w p s = .next t) :
    t = { s with run := .exited (.error .invalidJump) } ∧ isValidJump s.cfg.opmap s.code w = false ∨
    t = { s with stack := s.stack.drop p, pc := w.toNat, run := .running } ∧ isValidJump s.cfg.opmap s.code w = true := by
  unfold jumpTo at h
  split at h
  · rename_i hv; cases h; exact .inr ⟨rfl, hv⟩
  · rename_i hv; cases h; exact .inl ⟨rfl, by simpa using hv⟩

/-- What JUMP can answer. -/
theorem execJump_next {s t : State} (h : execJump s = .next t) :
    t = { s with run := .exited (.error .stackUnderflow) } ∧ s.stack.length < 1 ∨
    t = { s with run := .exited (.error .stackOverflow) } ∧ 1024 < s.stack.length - 1 ∨
    t = { s with run := .exited (.error .invalidJump) } ∧ 1 ≤ s.stack.length ∧ s.stack.length - 1 ≤ 1024 ∧
      isValidJump s.cfg.opmap s.code (s.x 0) = false ∨
    t = { s with stack := s.stack.drop 1, pc := (s.x 0).toNat, run := .running } ∧ 1 ≤ s.stack.length ∧ s.stack.length - 1 ≤ 1024 ∧
      isValidJump s.cfg.opmap s.code (s.x 0) = true := by
  rcases checked_cases 1 1 0 s fun _ => jumpTo (s.x 0) 1 s with ⟨a, b⟩ | ⟨a, b, c⟩ | ⟨a, b, c⟩
  · rw [execJump, b] at h; cases h; exact .inl ⟨rfl, a⟩
  · rw [execJump, c] at h; cases h; exact .inr (.inl ⟨rfl, b⟩)
  · rw [execJump, c] at h
    rcases jumpTo_next h with ⟨rfl, d⟩ | ⟨rfl, d⟩
    · exact .inr (.inr (.inl ⟨rfl, a, b, d⟩))
    · exact .inr (.inr (.inr ⟨rfl, a, b, d⟩))

/-- What JUMPI can answer. -/
theorem execJumpi_next {s t : State} (h : execJumpi s = .next t) :
    t = { s with run := .exited (.error .stackUnderflow) } ∧ s.stack.length < 2 ∨
    t = { s with run := .exited (.error .stackOverflow) } ∧ 1024 < s.stack.length - 2 ∨
    t = { s with run := .exited (.error .invalidJump) } ∧ 2 ≤ s.stack.length ∧ s.stack.length - 2 ≤ 1024 ∧ s.x 1 ≠ 0 ∧
      isValidJump s.cfg.opmap s.code (s.x 0) = false ∨
    t = { s with stack := s.stack.drop 2, pc := (s.x 0).toNat, run := .running } ∧ 2 ≤ s.stack.length ∧ s.stack.length - 2 ≤ 1024 ∧
      s.x 1 ≠ 0 ∧ isValidJump s.cfg.opmap s.code (s.x 0) = true ∨
    t = { s with stack := s.stack.drop 2, pc := s.pc + 1, run := .running } ∧ 2 ≤ s.stack.length ∧ s.stack.length - 2 ≤ 1024 ∧
      s.x 1 = 0 := by
  unfold execJumpi at h
  rcases checked_cases 2 2 0 s _ with ⟨a, b⟩ | ⟨a, b, c⟩ | ⟨a, b, c⟩
  · rw [b] at h; cases h; exact .inl ⟨rfl, a⟩
  · rw [c] at h; cases h; exact .inr (.inl ⟨rfl, b⟩)
  · rw [c] at h
    by_cases hc : s.x 1 = 0
    · rw [if_neg (by simp [isTrue, hc])] at h
      cases h
      exact .inr (.inr (.inr (.inr ⟨rfl, a, b, hc⟩)))
    · rw [if_pos (by simpa [isTrue] using hc)] at h
      rcases jumpTo_next h with ⟨rfl, d⟩ | ⟨rfl, d⟩
      · exact .inr (.inr (.inl ⟨rfl, a, b, hc, d⟩))
      · exact .inr (.inr (.inr (.inl ⟨rfl, a, b, hc, d⟩)))

/-- What the host's answer to a trap can lead to. -/
theorem hostTrap_next {op : Byte} {s t : State} (h : hostTrap op s = .next t) :
    (∃ r more, s.hostAnswers = .exit r :: more ∧ t = { s with run := .exited r, hostAnswers := more }) ∨
    (∃ stack mem memLen pc more, s.hostAnswers = .resume stack mem memLen pc :: more ∧ resumeFits s.cfg stack mem memLen pc = true ∧
      t = { s with stack := stack, mem := mem, memLen := memLen, pc := pc, run := .running, hostAnswers := more }) := by
  unfold hostTrap at h
  split at h
  · cases h
  · rename_i r more he; cases h; exact .inl ⟨r, more, he, rfl⟩
  · rename_i stack mem memLen pc more he
    split at h
    · rename_i hf; cases h; exact .inr ⟨stack, mem, memLen, pc, more, he, hf, rfl⟩
    · cases h

/-- What a Resume that fits respects (60_exceptions.md R292). -/
theorem resumeFits_iff (cfg : Config) (stack : List Word) (mem : Memory) (memLen pc : Nat) :
    resumeFits cfg stack mem memLen pc = true ↔
      stack.length ≤ 1024 ∧ memLen % 32 = 0 ∧ memLen ≤ cfg.memLimit ∧ Memory.wf mem ∧ (∀ c ∈ mem, c.1 < memLen) ∧ pc < 2 ^ cfg.pcBits := by
  simp only [resumeFits, Bool.and_eq_true, decide_eq_true_eq, List.all_eq_true, and_assoc]
  exact Iff.rfl

/-! ### The step -/

theorem step_running {s : State} (h : s.run = .running) : step s = exec (fetchInstr s) s := by simp [step, h]

theorem step_exited {s : State} {r : Reason} (h : s.run = .exited r) : step s = .next s := by simp [step, h]

theorem step_trapped {s : State} {op : Byte} (h : s.run = .trapped op) : step s = hostTrap op s := by simp [step, h]

/-! ### The validator -/

theorem isValidJump_lt {m : OpMap} {code : List Byte} {w : Word} (h : isValidJump m code w = true) : w.toNat < code.length := by
  simp only [isValidJump, Bool.and_eq_true, decide_eq_true_eq] at h
  exact h.1

end Sys2Proof.Machine
end

