-- ==== Sys2Proof/Laws/PerInstr.lean ====
section
/-! SUPPORT. The per-instruction family `OpcodeRoundTrip`: the encoder and the opcode table agree on every instruction, as syntax. -/

/-- The byte the encoder gives an instruction stands, in the opcode table, for that instruction with its immediate, and the table gives it as
many immediate bytes as the encoder (30_encoding.md R81, R86, R87). -/
def Sys2Proof.Laws.OpcodeRoundTrip.Statement (i : Sys2Proof.Instr) : Prop :=
  (Sys2Proof.opcodeRow (Sys2Proof.encodingOf i).1).make (Sys2Proof.encodingOf i).2.2 = i ∧
    (Sys2Proof.opcodeRow (Sys2Proof.encodingOf i).1).immBytes = (Sys2Proof.encodingOf i).2.1

theorem Sys2Proof.Laws.OpcodeRoundTrip.Statement.of {i : Sys2Proof.Instr} {op : Sys2Proof.Byte} {k : Nat} {imm : Sys2Proof.Word}
    (he : Sys2Proof.encodingOf i = (op, k, imm)) (hm : (Sys2Proof.opcodeRow op).make imm = i)
    (hk : (Sys2Proof.opcodeRow op).immBytes = k) : Sys2Proof.Laws.OpcodeRoundTrip.Statement i := by
  rw [Sys2Proof.Laws.OpcodeRoundTrip.Statement, he]; exact ⟨hm, hk⟩

theorem Sys2Proof.Laws.OpcodeRoundTrip.stop : Sys2Proof.Laws.OpcodeRoundTrip.Statement .stop := ⟨rfl, rfl⟩
theorem Sys2Proof.Laws.OpcodeRoundTrip.add : Sys2Proof.Laws.OpcodeRoundTrip.Statement .add := ⟨rfl, rfl⟩
theorem Sys2Proof.Laws.OpcodeRoundTrip.mul : Sys2Proof.Laws.OpcodeRoundTrip.Statement .mul := ⟨rfl, rfl⟩
theorem Sys2Proof.Laws.OpcodeRoundTrip.sub : Sys2Proof.Laws.OpcodeRoundTrip.Statement .sub := ⟨rfl, rfl⟩
theorem Sys2Proof.Laws.OpcodeRoundTrip.div : Sys2Proof.Laws.OpcodeRoundTrip.Statement .div := ⟨rfl, rfl⟩
theorem Sys2Proof.Laws.OpcodeRoundTrip.sdiv : Sys2Proof.Laws.OpcodeRoundTrip.Statement .sdiv := ⟨rfl, rfl⟩
theorem Sys2Proof.Laws.OpcodeRoundTrip.mod : Sys2Proof.Laws.OpcodeRoundTrip.Statement .mod := ⟨rfl, rfl⟩
theorem Sys2Proof.Laws.OpcodeRoundTrip.smod : Sys2Proof.Laws.OpcodeRoundTrip.Statement .smod := ⟨rfl, rfl⟩
theorem Sys2Proof.Laws.OpcodeRoundTrip.addmod : Sys2Proof.Laws.OpcodeRoundTrip.Statement .addmod := ⟨rfl, rfl⟩
theorem Sys2Proof.Laws.OpcodeRoundTrip.mulmod : Sys2Proof.Laws.OpcodeRoundTrip.Statement .mulmod := ⟨rfl, rfl⟩
theorem Sys2Proof.Laws.OpcodeRoundTrip.exp : Sys2Proof.Laws.OpcodeRoundTrip.Statement .exp := ⟨rfl, rfl⟩
theorem Sys2Proof.Laws.OpcodeRoundTrip.signextend : Sys2Proof.Laws.OpcodeRoundTrip.Statement .signextend := ⟨rfl, rfl⟩
theorem Sys2Proof.Laws.OpcodeRoundTrip.trap0x0C : Sys2Proof.Laws.OpcodeRoundTrip.Statement .trap0x0C := ⟨rfl, rfl⟩
theorem Sys2Proof.Laws.OpcodeRoundTrip.trap0x0D : Sys2Proof.Laws.OpcodeRoundTrip.Statement .trap0x0D := ⟨rfl, rfl⟩
theorem Sys2Proof.Laws.OpcodeRoundTrip.trap0x0E : Sys2Proof.Laws.OpcodeRoundTrip.Statement .trap0x0E := ⟨rfl, rfl⟩
theorem Sys2Proof.Laws.OpcodeRoundTrip.trap0x0F : Sys2Proof.Laws.OpcodeRoundTrip.Statement .trap0x0F := ⟨rfl, rfl⟩
theorem Sys2Proof.Laws.OpcodeRoundTrip.lt : Sys2Proof.Laws.OpcodeRoundTrip.Statement .lt := ⟨rfl, rfl⟩
theorem Sys2Proof.Laws.OpcodeRoundTrip.gt : Sys2Proof.Laws.OpcodeRoundTrip.Statement .gt := ⟨rfl, rfl⟩
theorem Sys2Proof.Laws.OpcodeRoundTrip.slt : Sys2Proof.Laws.OpcodeRoundTrip.Statement .slt := ⟨rfl, rfl⟩
theorem Sys2Proof.Laws.OpcodeRoundTrip.sgt : Sys2Proof.Laws.OpcodeRoundTrip.Statement .sgt := ⟨rfl, rfl⟩
theorem Sys2Proof.Laws.OpcodeRoundTrip.eq : Sys2Proof.Laws.OpcodeRoundTrip.Statement .eq := ⟨rfl, rfl⟩
theorem Sys2Proof.Laws.OpcodeRoundTrip.iszero : Sys2Proof.Laws.OpcodeRoundTrip.Statement .iszero := ⟨rfl, rfl⟩
theorem Sys2Proof.Laws.OpcodeRoundTrip.and : Sys2Proof.Laws.OpcodeRoundTrip.Statement .and := ⟨rfl, rfl⟩
theorem Sys2Proof.Laws.OpcodeRoundTrip.or : Sys2Proof.Laws.OpcodeRoundTrip.Statement .or := ⟨rfl, rfl⟩
theorem Sys2Proof.Laws.OpcodeRoundTrip.xor : Sys2Proof.Laws.OpcodeRoundTrip.Statement .xor := ⟨rfl, rfl⟩
theorem Sys2Proof.Laws.OpcodeRoundTrip.not : Sys2Proof.Laws.OpcodeRoundTrip.Statement .not := ⟨rfl, rfl⟩
theorem Sys2Proof.Laws.OpcodeRoundTrip.byte : Sys2Proof.Laws.OpcodeRoundTrip.Statement .byte := ⟨rfl, rfl⟩
theorem Sys2Proof.Laws.OpcodeRoundTrip.shl : Sys2Proof.Laws.OpcodeRoundTrip.Statement .shl := ⟨rfl, rfl⟩
theorem Sys2Proof.Laws.OpcodeRoundTrip.shr : Sys2Proof.Laws.OpcodeRoundTrip.Statement .shr := ⟨rfl, rfl⟩
theorem Sys2Proof.Laws.OpcodeRoundTrip.sar : Sys2Proof.Laws.OpcodeRoundTrip.Statement .sar := ⟨rfl, rfl⟩
theorem Sys2Proof.Laws.OpcodeRoundTrip.trap0x1E : Sys2Proof.Laws.OpcodeRoundTrip.Statement .trap0x1E := ⟨rfl, rfl⟩
theorem Sys2Proof.Laws.OpcodeRoundTrip.trap0x1F : Sys2Proof.Laws.OpcodeRoundTrip.Statement .trap0x1F := ⟨rfl, rfl⟩
theorem Sys2Proof.Laws.OpcodeRoundTrip.trap0x20 : Sys2Proof.Laws.OpcodeRoundTrip.Statement .trap0x20 := ⟨rfl, rfl⟩
theorem Sys2Proof.Laws.OpcodeRoundTrip.trap0x21 : Sys2Proof.Laws.OpcodeRoundTrip.Statement .trap0x21 := ⟨rfl, rfl⟩
theorem Sys2Proof.Laws.OpcodeRoundTrip.trap0x22 : Sys2Proof.Laws.OpcodeRoundTrip.Statement .trap0x22 := ⟨rfl, rfl⟩
theorem Sys2Proof.Laws.OpcodeRoundTrip.trap0x23 : Sys2Proof.Laws.OpcodeRoundTrip.Statement .trap0x23 := ⟨rfl, rfl⟩
theorem Sys2Proof.Laws.OpcodeRoundTrip.trap0x24 : Sys2Proof.Laws.OpcodeRoundTrip.Statement .trap0x24 := ⟨rfl, rfl⟩
theorem Sys2Proof.Laws.OpcodeRoundTrip.trap0x25 : Sys2Proof.Laws.OpcodeRoundTrip.Statement .trap0x25 := ⟨rfl, rfl⟩
theorem Sys2Proof.Laws.OpcodeRoundTrip.trap0x26 : Sys2Proof.Laws.OpcodeRoundTrip.Statement .trap0x26 := ⟨rfl, rfl⟩
theorem Sys2Proof.Laws.OpcodeRoundTrip.trap0x27 : Sys2Proof.Laws.OpcodeRoundTrip.Statement .trap0x27 := ⟨rfl, rfl⟩
theorem Sys2Proof.Laws.OpcodeRoundTrip.trap0x28 : Sys2Proof.Laws.OpcodeRoundTrip.Statement .trap0x28 := ⟨rfl, rfl⟩
theorem Sys2Proof.Laws.OpcodeRoundTrip.trap0x29 : Sys2Proof.Laws.OpcodeRoundTrip.Statement .trap0x29 := ⟨rfl, rfl⟩
theorem Sys2Proof.Laws.OpcodeRoundTrip.trap0x2A : Sys2Proof.Laws.OpcodeRoundTrip.Statement .trap0x2A := ⟨rfl, rfl⟩
theorem Sys2Proof.Laws.OpcodeRoundTrip.trap0x2B : Sys2Proof.Laws.OpcodeRoundTrip.Statement .trap0x2B := ⟨rfl, rfl⟩
theorem Sys2Proof.Laws.OpcodeRoundTrip.trap0x2C : Sys2Proof.Laws.OpcodeRoundTrip.Statement .trap0x2C := ⟨rfl, rfl⟩
theorem Sys2Proof.Laws.OpcodeRoundTrip.trap0x2D : Sys2Proof.Laws.OpcodeRoundTrip.Statement .trap0x2D := ⟨rfl, rfl⟩
theorem Sys2Proof.Laws.OpcodeRoundTrip.trap0x2E : Sys2Proof.Laws.OpcodeRoundTrip.Statement .trap0x2E := ⟨rfl, rfl⟩
theorem Sys2Proof.Laws.OpcodeRoundTrip.trap0x2F : Sys2Proof.Laws.OpcodeRoundTrip.Statement .trap0x2F := ⟨rfl, rfl⟩
theorem Sys2Proof.Laws.OpcodeRoundTrip.trap0x30 : Sys2Proof.Laws.OpcodeRoundTrip.Statement .trap0x30 := ⟨rfl, rfl⟩
theorem Sys2Proof.Laws.OpcodeRoundTrip.trap0x31 : Sys2Proof.Laws.OpcodeRoundTrip.Statement .trap0x31 := ⟨rfl, rfl⟩
theorem Sys2Proof.Laws.OpcodeRoundTrip.trap0x32 : Sys2Proof.Laws.OpcodeRoundTrip.Statement .trap0x32 := ⟨rfl, rfl⟩
theorem Sys2Proof.Laws.OpcodeRoundTrip.trap0x33 : Sys2Proof.Laws.OpcodeRoundTrip.Statement .trap0x33 := ⟨rfl, rfl⟩
theorem Sys2Proof.Laws.OpcodeRoundTrip.trap0x34 : Sys2Proof.Laws.OpcodeRoundTrip.Statement .trap0x34 := ⟨rfl, rfl⟩
theorem Sys2Proof.Laws.OpcodeRoundTrip.calldataload : Sys2Proof.Laws.OpcodeRoundTrip.Statement .calldataload := ⟨rfl, rfl⟩
theorem Sys2Proof.Laws.OpcodeRoundTrip.calldatasize : Sys2Proof.Laws.OpcodeRoundTrip.Statement .calldatasize := ⟨rfl, rfl⟩
theorem Sys2Proof.Laws.OpcodeRoundTrip.calldatacopy : Sys2Proof.Laws.OpcodeRoundTrip.Statement .calldatacopy := ⟨rfl, rfl⟩
theorem Sys2Proof.Laws.OpcodeRoundTrip.codesize : Sys2Proof.Laws.OpcodeRoundTrip.Statement .codesize := ⟨rfl, rfl⟩
theorem Sys2Proof.Laws.OpcodeRoundTrip.codecopy : Sys2Proof.Laws.OpcodeRoundTrip.Statement .codecopy := ⟨rfl, rfl⟩
theorem Sys2Proof.Laws.OpcodeRoundTrip.trap0x3A : Sys2Proof.Laws.OpcodeRoundTrip.Statement .trap0x3A := ⟨rfl, rfl⟩
theorem Sys2Proof.Laws.OpcodeRoundTrip.trap0x3B : Sys2Proof.Laws.OpcodeRoundTrip.Statement .trap0x3B := ⟨rfl, rfl⟩
theorem Sys2Proof.Laws.OpcodeRoundTrip.trap0x3C : Sys2Proof.Laws.OpcodeRoundTrip.Statement .trap0x3C := ⟨rfl, rfl⟩
theorem Sys2Proof.Laws.OpcodeRoundTrip.trap0x3D : Sys2Proof.Laws.OpcodeRoundTrip.Statement .trap0x3D := ⟨rfl, rfl⟩
theorem Sys2Proof.Laws.OpcodeRoundTrip.trap0x3E : Sys2Proof.Laws.OpcodeRoundTrip.Statement .trap0x3E := ⟨rfl, rfl⟩
theorem Sys2Proof.Laws.OpcodeRoundTrip.trap0x3F : Sys2Proof.Laws.OpcodeRoundTrip.Statement .trap0x3F := ⟨rfl, rfl⟩
theorem Sys2Proof.Laws.OpcodeRoundTrip.trap0x40 : Sys2Proof.Laws.OpcodeRoundTrip.Statement .trap0x40 := ⟨rfl, rfl⟩
theorem Sys2Proof.Laws.OpcodeRoundTrip.trap0x41 : Sys2Proof.Laws.OpcodeRoundTrip.Statement .trap0x41 := ⟨rfl, rfl⟩
theorem Sys2Proof.Laws.OpcodeRoundTrip.trap0x42 : Sys2Proof.Laws.OpcodeRoundTrip.Statement .trap0x42 := ⟨rfl, rfl⟩
theorem Sys2Proof.Laws.OpcodeRoundTrip.trap0x43 : Sys2Proof.Laws.OpcodeRoundTrip.Statement .trap0x43 := ⟨rfl, rfl⟩
theorem Sys2Proof.Laws.OpcodeRoundTrip.trap0x44 : Sys2Proof.Laws.OpcodeRoundTrip.Statement .trap0x44 := ⟨rfl, rfl⟩
theorem Sys2Proof.Laws.OpcodeRoundTrip.trap0x45 : Sys2Proof.Laws.OpcodeRoundTrip.Statement .trap0x45 := ⟨rfl, rfl⟩
theorem Sys2Proof.Laws.OpcodeRoundTrip.trap0x46 : Sys2Proof.Laws.OpcodeRoundTrip.Statement .trap0x46 := ⟨rfl, rfl⟩
theorem Sys2Proof.Laws.OpcodeRoundTrip.trap0x47 : Sys2Proof.Laws.OpcodeRoundTrip.Statement .trap0x47 := ⟨rfl, rfl⟩
theorem Sys2Proof.Laws.OpcodeRoundTrip.trap0x48 : Sys2Proof.Laws.OpcodeRoundTrip.Statement .trap0x48 := ⟨rfl, rfl⟩
theorem Sys2Proof.Laws.OpcodeRoundTrip.trap0x49 : Sys2Proof.Laws.OpcodeRoundTrip.Statement .trap0x49 := ⟨rfl, rfl⟩
theorem Sys2Proof.Laws.OpcodeRoundTrip.trap0x4A : Sys2Proof.Laws.OpcodeRoundTrip.Statement .trap0x4A := ⟨rfl, rfl⟩
theorem Sys2Proof.Laws.OpcodeRoundTrip.trap0x4B : Sys2Proof.Laws.OpcodeRoundTrip.Statement .trap0x4B := ⟨rfl, rfl⟩
theorem Sys2Proof.Laws.OpcodeRoundTrip.trap0x4C : Sys2Proof.Laws.OpcodeRoundTrip.Statement .trap0x4C := ⟨rfl, rfl⟩
theorem Sys2Proof.Laws.OpcodeRoundTrip.trap0x4D : Sys2Proof.Laws.OpcodeRoundTrip.Statement .trap0x4D := ⟨rfl, rfl⟩
theorem Sys2Proof.Laws.OpcodeRoundTrip.trap0x4E : Sys2Proof.Laws.OpcodeRoundTrip.Statement .trap0x4E := ⟨rfl, rfl⟩
theorem Sys2Proof.Laws.OpcodeRoundTrip.trap0x4F : Sys2Proof.Laws.OpcodeRoundTrip.Statement .trap0x4F := ⟨rfl, rfl⟩
theorem Sys2Proof.Laws.OpcodeRoundTrip.pop : Sys2Proof.Laws.OpcodeRoundTrip.Statement .pop := ⟨rfl, rfl⟩
theorem Sys2Proof.Laws.OpcodeRoundTrip.mload : Sys2Proof.Laws.OpcodeRoundTrip.Statement .mload := ⟨rfl, rfl⟩
theorem Sys2Proof.Laws.OpcodeRoundTrip.mstore : Sys2Proof.Laws.OpcodeRoundTrip.Statement .mstore := ⟨rfl, rfl⟩
theorem Sys2Proof.Laws.OpcodeRoundTrip.mstore8 : Sys2Proof.Laws.OpcodeRoundTrip.Statement .mstore8 := ⟨rfl, rfl⟩
theorem Sys2Proof.Laws.OpcodeRoundTrip.trap0x54 : Sys2Proof.Laws.OpcodeRoundTrip.Statement .trap0x54 := ⟨rfl, rfl⟩
theorem Sys2Proof.Laws.OpcodeRoundTrip.trap0x55 : Sys2Proof.Laws.OpcodeRoundTrip.Statement .trap0x55 := ⟨rfl, rfl⟩
theorem Sys2Proof.Laws.OpcodeRoundTrip.jump : Sys2Proof.Laws.OpcodeRoundTrip.Statement .jump := ⟨rfl, rfl⟩
theorem Sys2Proof.Laws.OpcodeRoundTrip.jumpi : Sys2Proof.Laws.OpcodeRoundTrip.Statement .jumpi := ⟨rfl, rfl⟩
theorem Sys2Proof.Laws.OpcodeRoundTrip.pc : Sys2Proof.Laws.OpcodeRoundTrip.Statement .pc := ⟨rfl, rfl⟩
theorem Sys2Proof.Laws.OpcodeRoundTrip.msize : Sys2Proof.Laws.OpcodeRoundTrip.Statement .msize := ⟨rfl, rfl⟩
theorem Sys2Proof.Laws.OpcodeRoundTrip.trap0x5A : Sys2Proof.Laws.OpcodeRoundTrip.Statement .trap0x5A := ⟨rfl, rfl⟩
theorem Sys2Proof.Laws.OpcodeRoundTrip.jumpdest : Sys2Proof.Laws.OpcodeRoundTrip.Statement .jumpdest := ⟨rfl, rfl⟩
theorem Sys2Proof.Laws.OpcodeRoundTrip.trap0x5C : Sys2Proof.Laws.OpcodeRoundTrip.Statement .trap0x5C := ⟨rfl, rfl⟩
theorem Sys2Proof.Laws.OpcodeRoundTrip.trap0x5D : Sys2Proof.Laws.OpcodeRoundTrip.Statement .trap0x5D := ⟨rfl, rfl⟩
theorem Sys2Proof.Laws.OpcodeRoundTrip.trap0x5E : Sys2Proof.Laws.OpcodeRoundTrip.Statement .trap0x5E := ⟨rfl, rfl⟩
theorem Sys2Proof.Laws.OpcodeRoundTrip.trap0x5F : Sys2Proof.Laws.OpcodeRoundTrip.Statement .trap0x5F := ⟨rfl, rfl⟩
theorem Sys2Proof.Laws.OpcodeRoundTrip.push1 (imm : Sys2Proof.Word) : Sys2Proof.Laws.OpcodeRoundTrip.Statement (.push1 imm) :=
  .of (op := 0x60) (k := 1) rfl rfl rfl
theorem Sys2Proof.Laws.OpcodeRoundTrip.push2 (imm : Sys2Proof.Word) : Sys2Proof.Laws.OpcodeRoundTrip.Statement (.push2 imm) :=
  .of (op := 0x61) (k := 2) rfl rfl rfl
theorem Sys2Proof.Laws.OpcodeRoundTrip.push3 (imm : Sys2Proof.Word) : Sys2Proof.Laws.OpcodeRoundTrip.Statement (.push3 imm) :=
  .of (op := 0x62) (k := 3) rfl rfl rfl
theorem Sys2Proof.Laws.OpcodeRoundTrip.push4 (imm : Sys2Proof.Word) : Sys2Proof.Laws.OpcodeRoundTrip.Statement (.push4 imm) :=
  .of (op := 0x63) (k := 4) rfl rfl rfl
theorem Sys2Proof.Laws.OpcodeRoundTrip.push5 (imm : Sys2Proof.Word) : Sys2Proof.Laws.OpcodeRoundTrip.Statement (.push5 imm) :=
  .of (op := 0x64) (k := 5) rfl rfl rfl
theorem Sys2Proof.Laws.OpcodeRoundTrip.push6 (imm : Sys2Proof.Word) : Sys2Proof.Laws.OpcodeRoundTrip.Statement (.push6 imm) :=
  .of (op := 0x65) (k := 6) rfl rfl rfl
theorem Sys2Proof.Laws.OpcodeRoundTrip.push7 (imm : Sys2Proof.Word) : Sys2Proof.Laws.OpcodeRoundTrip.Statement (.push7 imm) :=
  .of (op := 0x66) (k := 7) rfl rfl rfl
theorem Sys2Proof.Laws.OpcodeRoundTrip.push8 (imm : Sys2Proof.Word) : Sys2Proof.Laws.OpcodeRoundTrip.Statement (.push8 imm) :=
  .of (op := 0x67) (k := 8) rfl rfl rfl
theorem Sys2Proof.Laws.OpcodeRoundTrip.push9 (imm : Sys2Proof.Word) : Sys2Proof.Laws.OpcodeRoundTrip.Statement (.push9 imm) :=
  .of (op := 0x68) (k := 9) rfl rfl rfl
theorem Sys2Proof.Laws.OpcodeRoundTrip.push10 (imm : Sys2Proof.Word) : Sys2Proof.Laws.OpcodeRoundTrip.Statement (.push10 imm) :=
  .of (op := 0x69) (k := 10) rfl rfl rfl
theorem Sys2Proof.Laws.OpcodeRoundTrip.push11 (imm : Sys2Proof.Word) : Sys2Proof.Laws.OpcodeRoundTrip.Statement (.push11 imm) :=
  .of (op := 0x6A) (k := 11) rfl rfl rfl
theorem Sys2Proof.Laws.OpcodeRoundTrip.push12 (imm : Sys2Proof.Word) : Sys2Proof.Laws.OpcodeRoundTrip.Statement (.push12 imm) :=
  .of (op := 0x6B) (k := 12) rfl rfl rfl
theorem Sys2Proof.Laws.OpcodeRoundTrip.push13 (imm : Sys2Proof.Word) : Sys2Proof.Laws.OpcodeRoundTrip.Statement (.push13 imm) :=
  .of (op := 0x6C) (k := 13) rfl rfl rfl
theorem Sys2Proof.Laws.OpcodeRoundTrip.push14 (imm : Sys2Proof.Word) : Sys2Proof.Laws.OpcodeRoundTrip.Statement (.push14 imm) :=
  .of (op := 0x6D) (k := 14) rfl rfl rfl
theorem Sys2Proof.Laws.OpcodeRoundTrip.push15 (imm : Sys2Proof.Word) : Sys2Proof.Laws.OpcodeRoundTrip.Statement (.push15 imm) :=
  .of (op := 0x6E) (k := 15) rfl rfl rfl
theorem Sys2Proof.Laws.OpcodeRoundTrip.push16 (imm : Sys2Proof.Word) : Sys2Proof.Laws.OpcodeRoundTrip.Statement (.push16 imm) :=
  .of (op := 0x6F) (k := 16) rfl rfl rfl
theorem Sys2Proof.Laws.OpcodeRoundTrip.push17 (imm : Sys2Proof.Word) : Sys2Proof.Laws.OpcodeRoundTrip.Statement (.push17 imm) :=
  .of (op := 0x70) (k := 17) rfl rfl rfl
theorem Sys2Proof.Laws.OpcodeRoundTrip.push18 (imm : Sys2Proof.Word) : Sys2Proof.Laws.OpcodeRoundTrip.Statement (.push18 imm) :=
  .of (op := 0x71) (k := 18) rfl rfl rfl
theorem Sys2Proof.Laws.OpcodeRoundTrip.push19 (imm : Sys2Proof.Word) : Sys2Proof.Laws.OpcodeRoundTrip.Statement (.push19 imm) :=
  .of (op := 0x72) (k := 19) rfl rfl rfl
theorem Sys2Proof.Laws.OpcodeRoundTrip.push20 (imm : Sys2Proof.Word) : Sys2Proof.Laws.OpcodeRoundTrip.Statement (.push20 imm) :=
  .of (op := 0x73) (k := 20) rfl rfl rfl
theorem Sys2Proof.Laws.OpcodeRoundTrip.push21 (imm : Sys2Proof.Word) : Sys2Proof.Laws.OpcodeRoundTrip.Statement (.push21 imm) :=
  .of (op := 0x74) (k := 21) rfl rfl rfl
theorem Sys2Proof.Laws.OpcodeRoundTrip.push22 (imm : Sys2Proof.Word) : Sys2Proof.Laws.OpcodeRoundTrip.Statement (.push22 imm) :=
  .of (op := 0x75) (k := 22) rfl rfl rfl
theorem Sys2Proof.Laws.OpcodeRoundTrip.push23 (imm : Sys2Proof.Word) : Sys2Proof.Laws.OpcodeRoundTrip.Statement (.push23 imm) :=
  .of (op := 0x76) (k := 23) rfl rfl rfl
theorem Sys2Proof.Laws.OpcodeRoundTrip.push24 (imm : Sys2Proof.Word) : Sys2Proof.Laws.OpcodeRoundTrip.Statement (.push24 imm) :=
  .of (op := 0x77) (k := 24) rfl rfl rfl
theorem Sys2Proof.Laws.OpcodeRoundTrip.push25 (imm : Sys2Proof.Word) : Sys2Proof.Laws.OpcodeRoundTrip.Statement (.push25 imm) :=
  .of (op := 0x78) (k := 25) rfl rfl rfl
theorem Sys2Proof.Laws.OpcodeRoundTrip.push26 (imm : Sys2Proof.Word) : Sys2Proof.Laws.OpcodeRoundTrip.Statement (.push26 imm) :=
  .of (op := 0x79) (k := 26) rfl rfl rfl
theorem Sys2Proof.Laws.OpcodeRoundTrip.push27 (imm : Sys2Proof.Word) : Sys2Proof.Laws.OpcodeRoundTrip.Statement (.push27 imm) :=
  .of (op := 0x7A) (k := 27) rfl rfl rfl
theorem Sys2Proof.Laws.OpcodeRoundTrip.push28 (imm : Sys2Proof.Word) : Sys2Proof.Laws.OpcodeRoundTrip.Statement (.push28 imm) :=
  .of (op := 0x7B) (k := 28) rfl rfl rfl
theorem Sys2Proof.Laws.OpcodeRoundTrip.push29 (imm : Sys2Proof.Word) : Sys2Proof.Laws.OpcodeRoundTrip.Statement (.push29 imm) :=
  .of (op := 0x7C) (k := 29) rfl rfl rfl
theorem Sys2Proof.Laws.OpcodeRoundTrip.push30 (imm : Sys2Proof.Word) : Sys2Proof.Laws.OpcodeRoundTrip.Statement (.push30 imm) :=
  .of (op := 0x7D) (k := 30) rfl rfl rfl
theorem Sys2Proof.Laws.OpcodeRoundTrip.push31 (imm : Sys2Proof.Word) : Sys2Proof.Laws.OpcodeRoundTrip.Statement (.push31 imm) :=
  .of (op := 0x7E) (k := 31) rfl rfl rfl
theorem Sys2Proof.Laws.OpcodeRoundTrip.push32 (imm : Sys2Proof.Word) : Sys2Proof.Laws.OpcodeRoundTrip.Statement (.push32 imm) :=
  .of (op := 0x7F) (k := 32) rfl rfl rfl
theorem Sys2Proof.Laws.OpcodeRoundTrip.dup1 : Sys2Proof.Laws.OpcodeRoundTrip.Statement .dup1 := ⟨rfl, rfl⟩
theorem Sys2Proof.Laws.OpcodeRoundTrip.dup2 : Sys2Proof.Laws.OpcodeRoundTrip.Statement .dup2 := ⟨rfl, rfl⟩
theorem Sys2Proof.Laws.OpcodeRoundTrip.dup3 : Sys2Proof.Laws.OpcodeRoundTrip.Statement .dup3 := ⟨rfl, rfl⟩
theorem Sys2Proof.Laws.OpcodeRoundTrip.dup4 : Sys2Proof.Laws.OpcodeRoundTrip.Statement .dup4 := ⟨rfl, rfl⟩
theorem Sys2Proof.Laws.OpcodeRoundTrip.dup5 : Sys2Proof.Laws.OpcodeRoundTrip.Statement .dup5 := ⟨rfl, rfl⟩
theorem Sys2Proof.Laws.OpcodeRoundTrip.dup6 : Sys2Proof.Laws.OpcodeRoundTrip.Statement .dup6 := ⟨rfl, rfl⟩
theorem Sys2Proof.Laws.OpcodeRoundTrip.dup7 : Sys2Proof.Laws.OpcodeRoundTrip.Statement .dup7 := ⟨rfl, rfl⟩
theorem Sys2Proof.Laws.OpcodeRoundTrip.dup8 : Sys2Proof.Laws.OpcodeRoundTrip.Statement .dup8 := ⟨rfl, rfl⟩
theorem Sys2Proof.Laws.OpcodeRoundTrip.dup9 : Sys2Proof.Laws.OpcodeRoundTrip.Statement .dup9 := ⟨rfl, rfl⟩
theorem Sys2Proof.Laws.OpcodeRoundTrip.dup10 : Sys2Proof.Laws.OpcodeRoundTrip.Statement .dup10 := ⟨rfl, rfl⟩
theorem Sys2Proof.Laws.OpcodeRoundTrip.dup11 : Sys2Proof.Laws.OpcodeRoundTrip.Statement .dup11 := ⟨rfl, rfl⟩
theorem Sys2Proof.Laws.OpcodeRoundTrip.dup12 : Sys2Proof.Laws.OpcodeRoundTrip.Statement .dup12 := ⟨rfl, rfl⟩
theorem Sys2Proof.Laws.OpcodeRoundTrip.dup13 : Sys2Proof.Laws.OpcodeRoundTrip.Statement .dup13 := ⟨rfl, rfl⟩
theorem Sys2Proof.Laws.OpcodeRoundTrip.dup14 : Sys2Proof.Laws.OpcodeRoundTrip.Statement .dup14 := ⟨rfl, rfl⟩
theorem Sys2Proof.Laws.OpcodeRoundTrip.dup15 : Sys2Proof.Laws.OpcodeRoundTrip.Statement .dup15 := ⟨rfl, rfl⟩
theorem Sys2Proof.Laws.OpcodeRoundTrip.dup16 : Sys2Proof.Laws.OpcodeRoundTrip.Statement .dup16 := ⟨rfl, rfl⟩
theorem Sys2Proof.Laws.OpcodeRoundTrip.swap1 : Sys2Proof.Laws.OpcodeRoundTrip.Statement .swap1 := ⟨rfl, rfl⟩
theorem Sys2Proof.Laws.OpcodeRoundTrip.swap2 : Sys2Proof.Laws.OpcodeRoundTrip.Statement .swap2 := ⟨rfl, rfl⟩
theorem Sys2Proof.Laws.OpcodeRoundTrip.swap3 : Sys2Proof.Laws.OpcodeRoundTrip.Statement .swap3 := ⟨rfl, rfl⟩
theorem Sys2Proof.Laws.OpcodeRoundTrip.swap4 : Sys2Proof.Laws.OpcodeRoundTrip.Statement .swap4 := ⟨rfl, rfl⟩
theorem Sys2Proof.Laws.OpcodeRoundTrip.swap5 : Sys2Proof.Laws.OpcodeRoundTrip.Statement .swap5 := ⟨rfl, rfl⟩
theorem Sys2Proof.Laws.OpcodeRoundTrip.swap6 : Sys2Proof.Laws.OpcodeRoundTrip.Statement .swap6 := ⟨rfl, rfl⟩
theorem Sys2Proof.Laws.OpcodeRoundTrip.swap7 : Sys2Proof.Laws.OpcodeRoundTrip.Statement .swap7 := ⟨rfl, rfl⟩
theorem Sys2Proof.Laws.OpcodeRoundTrip.swap8 : Sys2Proof.Laws.OpcodeRoundTrip.Statement .swap8 := ⟨rfl, rfl⟩
theorem Sys2Proof.Laws.OpcodeRoundTrip.swap9 : Sys2Proof.Laws.OpcodeRoundTrip.Statement .swap9 := ⟨rfl, rfl⟩
theorem Sys2Proof.Laws.OpcodeRoundTrip.swap10 : Sys2Proof.Laws.OpcodeRoundTrip.Statement .swap10 := ⟨rfl, rfl⟩
theorem Sys2Proof.Laws.OpcodeRoundTrip.swap11 : Sys2Proof.Laws.OpcodeRoundTrip.Statement .swap11 := ⟨rfl, rfl⟩
theorem Sys2Proof.Laws.OpcodeRoundTrip.swap12 : Sys2Proof.Laws.OpcodeRoundTrip.Statement .swap12 := ⟨rfl, rfl⟩
theorem Sys2Proof.Laws.OpcodeRoundTrip.swap13 : Sys2Proof.Laws.OpcodeRoundTrip.Statement .swap13 := ⟨rfl, rfl⟩
theorem Sys2Proof.Laws.OpcodeRoundTrip.swap14 : Sys2Proof.Laws.OpcodeRoundTrip.Statement .swap14 := ⟨rfl, rfl⟩
theorem Sys2Proof.Laws.OpcodeRoundTrip.swap15 : Sys2Proof.Laws.OpcodeRoundTrip.Statement .swap15 := ⟨rfl, rfl⟩
theorem Sys2Proof.Laws.OpcodeRoundTrip.swap16 : Sys2Proof.Laws.OpcodeRoundTrip.Statement .swap16 := ⟨rfl, rfl⟩
theorem Sys2Proof.Laws.OpcodeRoundTrip.trap0xA0 : Sys2Proof.Laws.OpcodeRoundTrip.Statement .trap0xA0 := ⟨rfl, rfl⟩
theorem Sys2Proof.Laws.OpcodeRoundTrip.trap0xA1 : Sys2Proof.Laws.OpcodeRoundTrip.Statement .trap0xA1 := ⟨rfl, rfl⟩
theorem Sys2Proof.Laws.OpcodeRoundTrip.trap0xA2 : Sys2Proof.Laws.OpcodeRoundTrip.Statement .trap0xA2 := ⟨rfl, rfl⟩
theorem Sys2Proof.Laws.OpcodeRoundTrip.trap0xA3 : Sys2Proof.Laws.OpcodeRoundTrip.Statement .trap0xA3 := ⟨rfl, rfl⟩
theorem Sys2Proof.Laws.OpcodeRoundTrip.trap0xA4 : Sys2Proof.Laws.OpcodeRoundTrip.Statement .trap0xA4 := ⟨rfl, rfl⟩
theorem Sys2Proof.Laws.OpcodeRoundTrip.trap0xA5 : Sys2Proof.Laws.OpcodeRoundTrip.Statement .trap0xA5 := ⟨rfl, rfl⟩
theorem Sys2Proof.Laws.OpcodeRoundTrip.trap0xA6 : Sys2Proof.Laws.OpcodeRoundTrip.Statement .trap0xA6 := ⟨rfl, rfl⟩
theorem Sys2Proof.Laws.OpcodeRoundTrip.trap0xA7 : Sys2Proof.Laws.OpcodeRoundTrip.Statement .trap0xA7 := ⟨rfl, rfl⟩
theorem Sys2Proof.Laws.OpcodeRoundTrip.trap0xA8 : Sys2Proof.Laws.OpcodeRoundTrip.Statement .trap0xA8 := ⟨rfl, rfl⟩
theorem Sys2Proof.Laws.OpcodeRoundTrip.trap0xA9 : Sys2Proof.Laws.OpcodeRoundTrip.Statement .trap0xA9 := ⟨rfl, rfl⟩
theorem Sys2Proof.Laws.OpcodeRoundTrip.trap0xAA : Sys2Proof.Laws.OpcodeRoundTrip.Statement .trap0xAA := ⟨rfl, rfl⟩
theorem Sys2Proof.Laws.OpcodeRoundTrip.trap0xAB : Sys2Proof.Laws.OpcodeRoundTrip.Statement .trap0xAB := ⟨rfl, rfl⟩
theorem Sys2Proof.Laws.OpcodeRoundTrip.trap0xAC : Sys2Proof.Laws.OpcodeRoundTrip.Statement .trap0xAC := ⟨rfl, rfl⟩
theorem Sys2Proof.Laws.OpcodeRoundTrip.trap0xAD : Sys2Proof.Laws.OpcodeRoundTrip.Statement .trap0xAD := ⟨rfl, rfl⟩
theorem Sys2Proof.Laws.OpcodeRoundTrip.trap0xAE : Sys2Proof.Laws.OpcodeRoundTrip.Statement .trap0xAE := ⟨rfl, rfl⟩
theorem Sys2Proof.Laws.OpcodeRoundTrip.trap0xAF : Sys2Proof.Laws.OpcodeRoundTrip.Statement .trap0xAF := ⟨rfl, rfl⟩
theorem Sys2Proof.Laws.OpcodeRoundTrip.trap0xB0 : Sys2Proof.Laws.OpcodeRoundTrip.Statement .trap0xB0 := ⟨rfl, rfl⟩
theorem Sys2Proof.Laws.OpcodeRoundTrip.trap0xB1 : Sys2Proof.Laws.OpcodeRoundTrip.Statement .trap0xB1 := ⟨rfl, rfl⟩
theorem Sys2Proof.Laws.OpcodeRoundTrip.trap0xB2 : Sys2Proof.Laws.OpcodeRoundTrip.Statement .trap0xB2 := ⟨rfl, rfl⟩
theorem Sys2Proof.Laws.OpcodeRoundTrip.trap0xB3 : Sys2Proof.Laws.OpcodeRoundTrip.Statement .trap0xB3 := ⟨rfl, rfl⟩
theorem Sys2Proof.Laws.OpcodeRoundTrip.trap0xB4 : Sys2Proof.Laws.OpcodeRoundTrip.Statement .trap0xB4 := ⟨rfl, rfl⟩
theorem Sys2Proof.Laws.OpcodeRoundTrip.trap0xB5 : Sys2Proof.Laws.OpcodeRoundTrip.Statement .trap0xB5 := ⟨rfl, rfl⟩
theorem Sys2Proof.Laws.OpcodeRoundTrip.trap0xB6 : Sys2Proof.Laws.OpcodeRoundTrip.Statement .trap0xB6 := ⟨rfl, rfl⟩
theorem Sys2Proof.Laws.OpcodeRoundTrip.trap0xB7 : Sys2Proof.Laws.OpcodeRoundTrip.Statement .trap0xB7 := ⟨rfl, rfl⟩
theorem Sys2Proof.Laws.OpcodeRoundTrip.trap0xB8 : Sys2Proof.Laws.OpcodeRoundTrip.Statement .trap0xB8 := ⟨rfl, rfl⟩
theorem Sys2Proof.Laws.OpcodeRoundTrip.trap0xB9 : Sys2Proof.Laws.OpcodeRoundTrip.Statement .trap0xB9 := ⟨rfl, rfl⟩
theorem Sys2Proof.Laws.OpcodeRoundTrip.trap0xBA : Sys2Proof.Laws.OpcodeRoundTrip.Statement .trap0xBA := ⟨rfl, rfl⟩
theorem Sys2Proof.Laws.OpcodeRoundTrip.trap0xBB : Sys2Proof.Laws.OpcodeRoundTrip.Statement .trap0xBB := ⟨rfl, rfl⟩
theorem Sys2Proof.Laws.OpcodeRoundTrip.trap0xBC : Sys2Proof.Laws.OpcodeRoundTrip.Statement .trap0xBC := ⟨rfl, rfl⟩
theorem Sys2Proof.Laws.OpcodeRoundTrip.trap0xBD : Sys2Proof.Laws.OpcodeRoundTrip.Statement .trap0xBD := ⟨rfl, rfl⟩
theorem Sys2Proof.Laws.OpcodeRoundTrip.trap0xBE : Sys2Proof.Laws.OpcodeRoundTrip.Statement .trap0xBE := ⟨rfl, rfl⟩
theorem Sys2Proof.Laws.OpcodeRoundTrip.trap0xBF : Sys2Proof.Laws.OpcodeRoundTrip.Statement .trap0xBF := ⟨rfl, rfl⟩
theorem Sys2Proof.Laws.OpcodeRoundTrip.trap0xC0 : Sys2Proof.Laws.OpcodeRoundTrip.Statement .trap0xC0 := ⟨rfl, rfl⟩
theorem Sys2Proof.Laws.OpcodeRoundTrip.trap0xC1 : Sys2Proof.Laws.OpcodeRoundTrip.Statement .trap0xC1 := ⟨rfl, rfl⟩
theorem Sys2Proof.Laws.OpcodeRoundTrip.trap0xC2 : Sys2Proof.Laws.OpcodeRoundTrip.Statement .trap0xC2 := ⟨rfl, rfl⟩
theorem Sys2Proof.Laws.OpcodeRoundTrip.trap0xC3 : Sys2Proof.Laws.OpcodeRoundTrip.Statement .trap0xC3 := ⟨rfl, rfl⟩
theorem Sys2Proof.Laws.OpcodeRoundTrip.trap0xC4 : Sys2Proof.Laws.OpcodeRoundTrip.Statement .trap0xC4 := ⟨rfl, rfl⟩
theorem Sys2Proof.Laws.OpcodeRoundTrip.trap0xC5 : Sys2Proof.Laws.OpcodeRoundTrip.Statement .trap0xC5 := ⟨rfl, rfl⟩
theorem Sys2Proof.Laws.OpcodeRoundTrip.trap0xC6 : Sys2Proof.Laws.OpcodeRoundTrip.Statement .trap0xC6 := ⟨rfl, rfl⟩
theorem Sys2Proof.Laws.OpcodeRoundTrip.trap0xC7 : Sys2Proof.Laws.OpcodeRoundTrip.Statement .trap0xC7 := ⟨rfl, rfl⟩
theorem Sys2Proof.Laws.OpcodeRoundTrip.trap0xC8 : Sys2Proof.Laws.OpcodeRoundTrip.Statement .trap0xC8 := ⟨rfl, rfl⟩
theorem Sys2Proof.Laws.OpcodeRoundTrip.trap0xC9 : Sys2Proof.Laws.OpcodeRoundTrip.Statement .trap0xC9 := ⟨rfl, rfl⟩
theorem Sys2Proof.Laws.OpcodeRoundTrip.trap0xCA : Sys2Proof.Laws.OpcodeRoundTrip.Statement .trap0xCA := ⟨rfl, rfl⟩
theorem Sys2Proof.Laws.OpcodeRoundTrip.trap0xCB : Sys2Proof.Laws.OpcodeRoundTrip.Statement .trap0xCB := ⟨rfl, rfl⟩
theorem Sys2Proof.Laws.OpcodeRoundTrip.trap0xCC : Sys2Proof.Laws.OpcodeRoundTrip.Statement .trap0xCC := ⟨rfl, rfl⟩
theorem Sys2Proof.Laws.OpcodeRoundTrip.trap0xCD : Sys2Proof.Laws.OpcodeRoundTrip.Statement .trap0xCD := ⟨rfl, rfl⟩
theorem Sys2Proof.Laws.OpcodeRoundTrip.trap0xCE : Sys2Proof.Laws.OpcodeRoundTrip.Statement .trap0xCE := ⟨rfl, rfl⟩
theorem Sys2Proof.Laws.OpcodeRoundTrip.trap0xCF : Sys2Proof.Laws.OpcodeRoundTrip.Statement .trap0xCF := ⟨rfl, rfl⟩
theorem Sys2Proof.Laws.OpcodeRoundTrip.trap0xD0 : Sys2Proof.Laws.OpcodeRoundTrip.Statement .trap0xD0 := ⟨rfl, rfl⟩
theorem Sys2Proof.Laws.OpcodeRoundTrip.trap0xD1 : Sys2Proof.Laws.OpcodeRoundTrip.Statement .trap0xD1 := ⟨rfl, rfl⟩
theorem Sys2Proof.Laws.OpcodeRoundTrip.trap0xD2 : Sys2Proof.Laws.OpcodeRoundTrip.Statement .trap0xD2 := ⟨rfl, rfl⟩
theorem Sys2Proof.Laws.OpcodeRoundTrip.trap0xD3 : Sys2Proof.Laws.OpcodeRoundTrip.Statement .trap0xD3 := ⟨rfl, rfl⟩
theorem Sys2Proof.Laws.OpcodeRoundTrip.trap0xD4 : Sys2Proof.Laws.OpcodeRoundTrip.Statement .trap0xD4 := ⟨rfl, rfl⟩
theorem Sys2Proof.Laws.OpcodeRoundTrip.trap0xD5 : Sys2Proof.Laws.OpcodeRoundTrip.Statement .trap0xD5 := ⟨rfl, rfl⟩
theorem Sys2Proof.Laws.OpcodeRoundTrip.trap0xD6 : Sys2Proof.Laws.OpcodeRoundTrip.Statement .trap0xD6 := ⟨rfl, rfl⟩
theorem Sys2Proof.Laws.OpcodeRoundTrip.trap0xD7 : Sys2Proof.Laws.OpcodeRoundTrip.Statement .trap0xD7 := ⟨rfl, rfl⟩
theorem Sys2Proof.Laws.OpcodeRoundTrip.trap0xD8 : Sys2Proof.Laws.OpcodeRoundTrip.Statement .trap0xD8 := ⟨rfl, rfl⟩
theorem Sys2Proof.Laws.OpcodeRoundTrip.trap0xD9 : Sys2Proof.Laws.OpcodeRoundTrip.Statement .trap0xD9 := ⟨rfl, rfl⟩
theorem Sys2Proof.Laws.OpcodeRoundTrip.trap0xDA : Sys2Proof.Laws.OpcodeRoundTrip.Statement .trap0xDA := ⟨rfl, rfl⟩
theorem Sys2Proof.Laws.OpcodeRoundTrip.trap0xDB : Sys2Proof.Laws.OpcodeRoundTrip.Statement .trap0xDB := ⟨rfl, rfl⟩
theorem Sys2Proof.Laws.OpcodeRoundTrip.trap0xDC : Sys2Proof.Laws.OpcodeRoundTrip.Statement .trap0xDC := ⟨rfl, rfl⟩
theorem Sys2Proof.Laws.OpcodeRoundTrip.trap0xDD : Sys2Proof.Laws.OpcodeRoundTrip.Statement .trap0xDD := ⟨rfl, rfl⟩
theorem Sys2Proof.Laws.OpcodeRoundTrip.trap0xDE : Sys2Proof.Laws.OpcodeRoundTrip.Statement .trap0xDE := ⟨rfl, rfl⟩
theorem Sys2Proof.Laws.OpcodeRoundTrip.trap0xDF : Sys2Proof.Laws.OpcodeRoundTrip.Statement .trap0xDF := ⟨rfl, rfl⟩
theorem Sys2Proof.Laws.OpcodeRoundTrip.trap0xE0 : Sys2Proof.Laws.OpcodeRoundTrip.Statement .trap0xE0 := ⟨rfl, rfl⟩
theorem Sys2Proof.Laws.OpcodeRoundTrip.trap0xE1 : Sys2Proof.Laws.OpcodeRoundTrip.Statement .trap0xE1 := ⟨rfl, rfl⟩
theorem Sys2Proof.Laws.OpcodeRoundTrip.trap0xE2 : Sys2Proof.Laws.OpcodeRoundTrip.Statement .trap0xE2 := ⟨rfl, rfl⟩
theorem Sys2Proof.Laws.OpcodeRoundTrip.trap0xE3 : Sys2Proof.Laws.OpcodeRoundTrip.Statement .trap0xE3 := ⟨rfl, rfl⟩
theorem Sys2Proof.Laws.OpcodeRoundTrip.trap0xE4 : Sys2Proof.Laws.OpcodeRoundTrip.Statement .trap0xE4 := ⟨rfl, rfl⟩
theorem Sys2Proof.Laws.OpcodeRoundTrip.trap0xE5 : Sys2Proof.Laws.OpcodeRoundTrip.Statement .trap0xE5 := ⟨rfl, rfl⟩
theorem Sys2Proof.Laws.OpcodeRoundTrip.trap0xE6 : Sys2Proof.Laws.OpcodeRoundTrip.Statement .trap0xE6 := ⟨rfl, rfl⟩
theorem Sys2Proof.Laws.OpcodeRoundTrip.trap0xE7 : Sys2Proof.Laws.OpcodeRoundTrip.Statement .trap0xE7 := ⟨rfl, rfl⟩
theorem Sys2Proof.Laws.OpcodeRoundTrip.trap0xE8 : Sys2Proof.Laws.OpcodeRoundTrip.Statement .trap0xE8 := ⟨rfl, rfl⟩
theorem Sys2Proof.Laws.OpcodeRoundTrip.trap0xE9 : Sys2Proof.Laws.OpcodeRoundTrip.Statement .trap0xE9 := ⟨rfl, rfl⟩
theorem Sys2Proof.Laws.OpcodeRoundTrip.trap0xEA : Sys2Proof.Laws.OpcodeRoundTrip.Statement .trap0xEA := ⟨rfl, rfl⟩
theorem Sys2Proof.Laws.OpcodeRoundTrip.trap0xEB : Sys2Proof.Laws.OpcodeRoundTrip.Statement .trap0xEB := ⟨rfl, rfl⟩
theorem Sys2Proof.Laws.OpcodeRoundTrip.trap0xEC : Sys2Proof.Laws.OpcodeRoundTrip.Statement .trap0xEC := ⟨rfl, rfl⟩
theorem Sys2Proof.Laws.OpcodeRoundTrip.trap0xED : Sys2Proof.Laws.OpcodeRoundTrip.Statement .trap0xED := ⟨rfl, rfl⟩
theorem Sys2Proof.Laws.OpcodeRoundTrip.trap0xEE : Sys2Proof.Laws.OpcodeRoundTrip.Statement .trap0xEE := ⟨rfl, rfl⟩
theorem Sys2Proof.Laws.OpcodeRoundTrip.trap0xEF : Sys2Proof.Laws.OpcodeRoundTrip.Statement .trap0xEF := ⟨rfl, rfl⟩
theorem Sys2Proof.Laws.OpcodeRoundTrip.trap0xF0 : Sys2Proof.Laws.OpcodeRoundTrip.Statement .trap0xF0 := ⟨rfl, rfl⟩
theorem Sys2Proof.Laws.OpcodeRoundTrip.trap0xF1 : Sys2Proof.Laws.OpcodeRoundTrip.Statement .trap0xF1 := ⟨rfl, rfl⟩
theorem Sys2Proof.Laws.OpcodeRoundTrip.trap0xF2 : Sys2Proof.Laws.OpcodeRoundTrip.Statement .trap0xF2 := ⟨rfl, rfl⟩
theorem Sys2Proof.Laws.OpcodeRoundTrip.return_ : Sys2Proof.Laws.OpcodeRoundTrip.Statement .return_ := ⟨rfl, rfl⟩
theorem Sys2Proof.Laws.OpcodeRoundTrip.trap0xF4 : Sys2Proof.Laws.OpcodeRoundTrip.Statement .trap0xF4 := ⟨rfl, rfl⟩
theorem Sys2Proof.Laws.OpcodeRoundTrip.trap0xF5 : Sys2Proof.Laws.OpcodeRoundTrip.Statement .trap0xF5 := ⟨rfl, rfl⟩
theorem Sys2Proof.Laws.OpcodeRoundTrip.trap0xF6 : Sys2Proof.Laws.OpcodeRoundTrip.Statement .trap0xF6 := ⟨rfl, rfl⟩
theorem Sys2Proof.Laws.OpcodeRoundTrip.trap0xF7 : Sys2Proof.Laws.OpcodeRoundTrip.Statement .trap0xF7 := ⟨rfl, rfl⟩
theorem Sys2Proof.Laws.OpcodeRoundTrip.trap0xF8 : Sys2Proof.Laws.OpcodeRoundTrip.Statement .trap0xF8 := ⟨rfl, rfl⟩
theorem Sys2Proof.Laws.OpcodeRoundTrip.trap0xF9 : Sys2Proof.Laws.OpcodeRoundTrip.Statement .trap0xF9 := ⟨rfl, rfl⟩
theorem Sys2Proof.Laws.OpcodeRoundTrip.trap0xFA : Sys2Proof.Laws.OpcodeRoundTrip.Statement .trap0xFA := ⟨rfl, rfl⟩
theorem Sys2Proof.Laws.OpcodeRoundTrip.trap0xFB : Sys2Proof.Laws.OpcodeRoundTrip.Statement .trap0xFB := ⟨rfl, rfl⟩
theorem Sys2Proof.Laws.OpcodeRoundTrip.trap0xFC : Sys2Proof.Laws.OpcodeRoundTrip.Statement .trap0xFC := ⟨rfl, rfl⟩
theorem Sys2Proof.Laws.OpcodeRoundTrip.revert : Sys2Proof.Laws.OpcodeRoundTrip.Statement .revert := ⟨rfl, rfl⟩
theorem Sys2Proof.Laws.OpcodeRoundTrip.invalid : Sys2Proof.Laws.OpcodeRoundTrip.Statement .invalid := ⟨rfl, rfl⟩
theorem Sys2Proof.Laws.OpcodeRoundTrip.trap0xFF : Sys2Proof.Laws.OpcodeRoundTrip.Statement .trap0xFF := ⟨rfl, rfl⟩
end

