-- ==== Sys2Proof/Tests/Slice0.lean ====
section
/-! SUPPORT. The model's own tests. Expected values come from spec/95_test_vectors.md (the vector's id stands in the comment) or from the opcode
table; each instruction test is one step of one instruction on a small state. The last part shows, for each obligation with hypotheses, a concrete
state and operands that meet them (`witness_<obligation>`). -/

open Sys2Proof
open Sys2Proof.Machine
open Sys2Proof.Claims

namespace Sys2Proof.Tests

-- One theorem at a time: each `decide +kernel` waits for the kernel to have taken every earlier theorem, and a hundred waiting at once hold a
-- hundred thread stacks.
set_option Elab.async false

/-! ### Helpers -/

/-- The reset state with a stack. -/
def st (stack : List Word) : State := { State.reset with stack := stack }

/-- The same with memory. -/
def stM (stack : List Word) (mem : Memory) (memLen : Nat) : State := { State.reset with stack := stack, mem := mem, memLen := memLen }

/-- The same with code, at a position. -/
def stC (stack : List Word) (code : List Byte) (pc : Nat) : State := { State.reset with stack := stack, code := code, pc := pc }

/-- The same with call input. -/
def stI (stack : List Word) (input : List Byte) : State := { State.reset with stack := stack, input := input }

/-- The same as `stC`, under an opcode map. -/
def stO (opmap : OpMap) (stack : List Word) (code : List Byte) : State :=
  { State.reset with stack := stack, code := code, cfg := { defaultConfig with opmap := opmap } }

/-- A stack of `n` words 7. -/
def sevens (n : Nat) : List Word := List.replicate n 7

/-- The next state an outcome holds, if it is one. -/
def next? (r : Result) : Option State :=
  match r with
  | .next s => some s
  | .fault _ => none
  | .refused _ => none

/-- Stack and position after an instruction that leaves the frame running. -/
def result (i : Instr) (s : State) : Option (List Word × Nat) :=
  match next? (exec i s) with
  | some t => if t.run = .running then some (t.stack, t.pc) else none
  | none => none

/-- Memory listing and length after an instruction. -/
def memAfter (i : Instr) (s : State) : Option (Memory × Nat) := (next? (exec i s)).map fun t => (t.mem, t.memLen)

/-- The run state after an instruction that left stack, position and memory as they were. -/
def stopped (i : Instr) (s : State) : Option Run :=
  match next? (exec i s) with
  | some t => if t.stack = s.stack ∧ t.pc = s.pc ∧ t.mem = s.mem ∧ t.memLen = s.memLen then some t.run else none
  | none => none

/-- How an instruction exits, and the stack it leaves. -/
def exited (i : Instr) (s : State) : Option (Run × List Word × Nat) :=
  (next? (exec i s)).map fun t => (t.run, t.stack, t.memLen)

/-- The instruction a list of bytes decodes to, alone. -/
def decoded (bs : List Byte) : Option Instr :=
  match decode tableMap bs with
  | .ok (i, []) => some i
  | .ok (_, _ :: _) => none
  | .error _ => none

/-! ### Well-formedness: the check of each PUSH-k refuses an immediate that needs one byte more -/

theorem test_wellFormed_refuses : [Instr.push1 0x100, Instr.push2 0x10000,
    Instr.push3 0x1000000, Instr.push4 0x100000000,
    Instr.push5 0x10000000000, Instr.push6 0x1000000000000,
    Instr.push7 0x100000000000000, Instr.push8 0x10000000000000000,
    Instr.push9 0x1000000000000000000, Instr.push10 0x100000000000000000000,
    Instr.push11 0x10000000000000000000000, Instr.push12 0x1000000000000000000000000,
    Instr.push13 0x100000000000000000000000000, Instr.push14 0x10000000000000000000000000000,
    Instr.push15 0x1000000000000000000000000000000, Instr.push16 0x100000000000000000000000000000000,
    Instr.push17 0x10000000000000000000000000000000000, Instr.push18 0x1000000000000000000000000000000000000,
    Instr.push19 0x100000000000000000000000000000000000000, Instr.push20 0x10000000000000000000000000000000000000000,
    Instr.push21 0x1000000000000000000000000000000000000000000, Instr.push22 0x100000000000000000000000000000000000000000000,
    Instr.push23 0x10000000000000000000000000000000000000000000000, Instr.push24 0x1000000000000000000000000000000000000000000000000,
    Instr.push25 0x100000000000000000000000000000000000000000000000000, Instr.push26 0x10000000000000000000000000000000000000000000000000000,
    Instr.push27 0x1000000000000000000000000000000000000000000000000000000, Instr.push28 0x100000000000000000000000000000000000000000000000000000000,
    Instr.push29 0x10000000000000000000000000000000000000000000000000000000000, Instr.push30 0x1000000000000000000000000000000000000000000000000000000000000,
    Instr.push31 0x100000000000000000000000000000000000000000000000000000000000000].all
    (fun i => i.wellFormed = false) = true := by decide +kernel
theorem test_wellFormed_accepts : [Instr.push1 0xFF, Instr.push2 0xFFFF,
    Instr.push3 0xFFFFFF, Instr.push4 0xFFFFFFFF,
    Instr.push5 0xFFFFFFFFFF, Instr.push6 0xFFFFFFFFFFFF,
    Instr.push7 0xFFFFFFFFFFFFFF, Instr.push8 0xFFFFFFFFFFFFFFFF,
    Instr.push9 0xFFFFFFFFFFFFFFFFFF, Instr.push10 0xFFFFFFFFFFFFFFFFFFFF,
    Instr.push11 0xFFFFFFFFFFFFFFFFFFFFFF, Instr.push12 0xFFFFFFFFFFFFFFFFFFFFFFFF,
    Instr.push13 0xFFFFFFFFFFFFFFFFFFFFFFFFFF, Instr.push14 0xFFFFFFFFFFFFFFFFFFFFFFFFFFFF,
    Instr.push15 0xFFFFFFFFFFFFFFFFFFFFFFFFFFFFFF, Instr.push16 0xFFFFFFFFFFFFFFFFFFFFFFFFFFFFFFFF,
    Instr.push17 0xFFFFFFFFFFFFFFFFFFFFFFFFFFFFFFFFFF, Instr.push18 0xFFFFFFFFFFFFFFFFFFFFFFFFFFFFFFFFFFFF,
    Instr.push19 0xFFFFFFFFFFFFFFFFFFFFFFFFFFFFFFFFFFFFFF, Instr.push20 0xFFFFFFFFFFFFFFFFFFFFFFFFFFFFFFFFFFFFFFFF,
    Instr.push21 0xFFFFFFFFFFFFFFFFFFFFFFFFFFFFFFFFFFFFFFFFFF, Instr.push22 0xFFFFFFFFFFFFFFFFFFFFFFFFFFFFFFFFFFFFFFFFFFFF,
    Instr.push23 0xFFFFFFFFFFFFFFFFFFFFFFFFFFFFFFFFFFFFFFFFFFFFFF, Instr.push24 0xFFFFFFFFFFFFFFFFFFFFFFFFFFFFFFFFFFFFFFFFFFFFFFFF,
    Instr.push25 0xFFFFFFFFFFFFFFFFFFFFFFFFFFFFFFFFFFFFFFFFFFFFFFFFFF, Instr.push26 0xFFFFFFFFFFFFFFFFFFFFFFFFFFFFFFFFFFFFFFFFFFFFFFFFFFFF,
    Instr.push27 0xFFFFFFFFFFFFFFFFFFFFFFFFFFFFFFFFFFFFFFFFFFFFFFFFFFFFFF, Instr.push28 0xFFFFFFFFFFFFFFFFFFFFFFFFFFFFFFFFFFFFFFFFFFFFFFFFFFFFFFFF,
    Instr.push29 0xFFFFFFFFFFFFFFFFFFFFFFFFFFFFFFFFFFFFFFFFFFFFFFFFFFFFFFFFFF, Instr.push30 0xFFFFFFFFFFFFFFFFFFFFFFFFFFFFFFFFFFFFFFFFFFFFFFFFFFFFFFFFFFFF,
    Instr.push31 0xFFFFFFFFFFFFFFFFFFFFFFFFFFFFFFFFFFFFFFFFFFFFFFFFFFFFFFFFFFFFFF, Instr.push32 0xFFFFFFFFFFFFFFFFFFFFFFFFFFFFFFFFFFFFFFFFFFFFFFFFFFFFFFFFFFFFFFFF].all
    (fun i => i.wellFormed) = true := by decide +kernel

/-! ### Decoding: a word of every row of 30_encoding.md R86, R87, written out from the table, decodes to its instruction -/

theorem test_decode_0x00_to_0x0F : ([
    [0x00], [0x01], [0x02], [0x03], [0x04], [0x05], [0x06], [0x07],
    [0x08], [0x09], [0x0A], [0x0B], [0x0C], [0x0D], [0x0E], [0x0F]] : List (List Byte)).map decoded =
   [
    some .stop, some .add, some .mul, some .sub, some .div, some .sdiv, some .mod, some .smod,
    some .addmod, some .mulmod, some .exp, some .signextend, some .trap0x0C, some .trap0x0D, some .trap0x0E, some .trap0x0F] := by decide +kernel
theorem test_decode_0x10_to_0x1F : ([
    [0x10], [0x11], [0x12], [0x13], [0x14], [0x15], [0x16], [0x17],
    [0x18], [0x19], [0x1A], [0x1B], [0x1C], [0x1D], [0x1E], [0x1F]] : List (List Byte)).map decoded =
   [
    some .lt, some .gt, some .slt, some .sgt, some .eq, some .iszero, some .and, some .or,
    some .xor, some .not, some .byte, some .shl, some .shr, some .sar, some .trap0x1E, some .trap0x1F] := by decide +kernel
theorem test_decode_0x20_to_0x2F : ([
    [0x20], [0x21], [0x22], [0x23], [0x24], [0x25], [0x26], [0x27],
    [0x28], [0x29], [0x2A], [0x2B], [0x2C], [0x2D], [0x2E], [0x2F]] : List (List Byte)).map decoded =
   [
    some .trap0x20, some .trap0x21, some .trap0x22, some .trap0x23, some .trap0x24, some .trap0x25, some .trap0x26, some .trap0x27,
    some .trap0x28, some .trap0x29, some .trap0x2A, some .trap0x2B, some .trap0x2C, some .trap0x2D, some .trap0x2E, some .trap0x2F] := by decide +kernel
theorem test_decode_0x30_to_0x3F : ([
    [0x30], [0x31], [0x32], [0x33], [0x34], [0x35], [0x36], [0x37],
    [0x38], [0x39], [0x3A], [0x3B], [0x3C], [0x3D], [0x3E], [0x3F]] : List (List Byte)).map decoded =
   [
    some .trap0x30, some .trap0x31, some .trap0x32, some .trap0x33, some .trap0x34, some .calldataload, some .calldatasize, some .calldatacopy,
    some .codesize, some .codecopy, some .trap0x3A, some .trap0x3B, some .trap0x3C, some .trap0x3D, some .trap0x3E, some .trap0x3F] := by decide +kernel
theorem test_decode_0x40_to_0x4F : ([
    [0x40], [0x41], [0x42], [0x43], [0x44], [0x45], [0x46], [0x47],
    [0x48], [0x49], [0x4A], [0x4B], [0x4C], [0x4D], [0x4E], [0x4F]] : List (List Byte)).map decoded =
   [
    some .trap0x40, some .trap0x41, some .trap0x42, some .trap0x43, some .trap0x44, some .trap0x45, some .trap0x46, some .trap0x47,
    some .trap0x48, some .trap0x49, some .trap0x4A, some .trap0x4B, some .trap0x4C, some .trap0x4D, some .trap0x4E, some .trap0x4F] := by decide +kernel
theorem test_decode_0x50_to_0x5F : ([
    [0x50], [0x51], [0x52], [0x53], [0x54], [0x55], [0x56], [0x57],
    [0x58], [0x59], [0x5A], [0x5B], [0x5C], [0x5D], [0x5E], [0x5F]] : List (List Byte)).map decoded =
   [
    some .pop, some .mload, some .mstore, some .mstore8, some .trap0x54, some .trap0x55, some .jump, some .jumpi,
    some .pc, some .msize, some .trap0x5A, some .jumpdest, some .trap0x5C, some .trap0x5D, some .trap0x5E, some .trap0x5F] := by decide +kernel
theorem test_decode_0x60_to_0x6F : ([
    [0x60, 0x11],
    [0x61, 0x11, 0x22],
    [0x62, 0x11, 0x22, 0x33],
    [0x63, 0x11, 0x22, 0x33, 0x44],
    [0x64, 0x11, 0x22, 0x33, 0x44, 0x55],
    [0x65, 0x11, 0x22, 0x33, 0x44, 0x55, 0x66],
    [0x66, 0x11, 0x22, 0x33, 0x44, 0x55, 0x66, 0x77],
    [0x67, 0x11, 0x22, 0x33, 0x44, 0x55, 0x66, 0x77, 0x88],
    [0x68, 0x11, 0x22, 0x33, 0x44, 0x55, 0x66, 0x77, 0x88, 0x99],
    [0x69, 0x11, 0x22, 0x33, 0x44, 0x55, 0x66, 0x77, 0x88, 0x99, 0xAA],
    [0x6A, 0x11, 0x22, 0x33, 0x44, 0x55, 0x66, 0x77, 0x88, 0x99, 0xAA, 0xBB],
    [0x6B, 0x11, 0x22, 0x33, 0x44, 0x55, 0x66, 0x77, 0x88, 0x99, 0xAA, 0xBB, 0xCC],
    [0x6C, 0x11, 0x22, 0x33, 0x44, 0x55, 0x66, 0x77, 0x88, 0x99, 0xAA, 0xBB, 0xCC, 0xDD],
    [0x6D, 0x11, 0x22, 0x33, 0x44, 0x55, 0x66, 0x77, 0x88, 0x99, 0xAA, 0xBB, 0xCC, 0xDD, 0xEE],
    [0x6E, 0x11, 0x22, 0x33, 0x44, 0x55, 0x66, 0x77, 0x88, 0x99, 0xAA, 0xBB, 0xCC, 0xDD, 0xEE, 0x11],
    [0x6F, 0x11, 0x22, 0x33, 0x44, 0x55, 0x66, 0x77, 0x88, 0x99, 0xAA, 0xBB, 0xCC, 0xDD, 0xEE, 0x11, 0x22]] : List (List Byte)).map decoded =
   [
    some (.push1 0x11),
    some (.push2 0x1122),
    some (.push3 0x112233),
    some (.push4 0x11223344),
    some (.push5 0x1122334455),
    some (.push6 0x112233445566),
    some (.push7 0x11223344556677),
    some (.push8 0x1122334455667788),
    some (.push9 0x112233445566778899),
    some (.push10 0x112233445566778899AA),
    some (.push11 0x112233445566778899AABB),
    some (.push12 0x112233445566778899AABBCC),
    some (.push13 0x112233445566778899AABBCCDD),
    some (.push14 0x112233445566778899AABBCCDDEE),
    some (.push15 0x112233445566778899AABBCCDDEE11),
    some (.push16 0x112233445566778899AABBCCDDEE1122)] := by decide +kernel
theorem test_decode_0x70_to_0x7F : ([
    [0x70, 0x11, 0x22, 0x33, 0x44, 0x55, 0x66, 0x77, 0x88, 0x99, 0xAA, 0xBB, 0xCC, 0xDD, 0xEE, 0x11, 0x22, 0x33],
    [0x71, 0x11, 0x22, 0x33, 0x44, 0x55, 0x66, 0x77, 0x88, 0x99, 0xAA, 0xBB, 0xCC, 0xDD, 0xEE, 0x11, 0x22, 0x33, 0x44],
    [0x72, 0x11, 0x22, 0x33, 0x44, 0x55, 0x66, 0x77, 0x88, 0x99, 0xAA, 0xBB, 0xCC, 0xDD, 0xEE, 0x11, 0x22, 0x33, 0x44, 0x55],
    [0x73, 0x11, 0x22, 0x33, 0x44, 0x55, 0x66, 0x77, 0x88, 0x99, 0xAA, 0xBB, 0xCC, 0xDD, 0xEE, 0x11, 0x22, 0x33, 0x44, 0x55, 0x66],
    [0x74, 0x11, 0x22, 0x33, 0x44, 0x55, 0x66, 0x77, 0x88, 0x99, 0xAA, 0xBB, 0xCC, 0xDD, 0xEE, 0x11, 0x22, 0x33, 0x44, 0x55, 0x66, 0x77],
    [0x75, 0x11, 0x22, 0x33, 0x44, 0x55, 0x66, 0x77, 0x88, 0x99, 0xAA, 0xBB, 0xCC, 0xDD, 0xEE, 0x11, 0x22, 0x33, 0x44, 0x55, 0x66, 0x77, 0x88],
    [0x76, 0x11, 0x22, 0x33, 0x44, 0x55, 0x66, 0x77, 0x88, 0x99, 0xAA, 0xBB, 0xCC, 0xDD, 0xEE, 0x11, 0x22, 0x33, 0x44, 0x55, 0x66, 0x77, 0x88, 0x99],
    [0x77, 0x11, 0x22, 0x33, 0x44, 0x55, 0x66, 0x77, 0x88, 0x99, 0xAA, 0xBB, 0xCC, 0xDD, 0xEE, 0x11, 0x22, 0x33, 0x44, 0x55, 0x66, 0x77, 0x88, 0x99, 0xAA],
    [0x78, 0x11, 0x22, 0x33, 0x44, 0x55, 0x66, 0x77, 0x88, 0x99, 0xAA, 0xBB, 0xCC, 0xDD, 0xEE, 0x11, 0x22, 0x33, 0x44, 0x55, 0x66, 0x77, 0x88, 0x99, 0xAA, 0xBB],
    [0x79, 0x11, 0x22, 0x33, 0x44, 0x55, 0x66, 0x77, 0x88, 0x99, 0xAA, 0xBB, 0xCC, 0xDD, 0xEE, 0x11, 0x22, 0x33, 0x44, 0x55, 0x66, 0x77, 0x88, 0x99, 0xAA, 0xBB, 0xCC],
    [0x7A, 0x11, 0x22, 0x33, 0x44, 0x55, 0x66, 0x77, 0x88, 0x99, 0xAA, 0xBB, 0xCC, 0xDD, 0xEE, 0x11, 0x22, 0x33, 0x44, 0x55, 0x66, 0x77, 0x88, 0x99, 0xAA, 0xBB, 0xCC, 0xDD],
    [0x7B, 0x11, 0x22, 0x33, 0x44, 0x55, 0x66, 0x77, 0x88, 0x99, 0xAA, 0xBB, 0xCC, 0xDD, 0xEE, 0x11, 0x22, 0x33, 0x44, 0x55, 0x66, 0x77, 0x88, 0x99, 0xAA, 0xBB, 0xCC, 0xDD, 0xEE],
    [0x7C, 0x11, 0x22, 0x33, 0x44, 0x55, 0x66, 0x77, 0x88, 0x99, 0xAA, 0xBB, 0xCC, 0xDD, 0xEE, 0x11, 0x22, 0x33, 0x44, 0x55, 0x66, 0x77, 0x88, 0x99, 0xAA, 0xBB, 0xCC, 0xDD, 0xEE, 0x11],
    [0x7D, 0x11, 0x22, 0x33, 0x44, 0x55, 0x66, 0x77, 0x88, 0x99, 0xAA, 0xBB, 0xCC, 0xDD, 0xEE, 0x11, 0x22, 0x33, 0x44, 0x55, 0x66, 0x77, 0x88, 0x99, 0xAA, 0xBB, 0xCC, 0xDD, 0xEE, 0x11, 0x22],
    [0x7E, 0x11, 0x22, 0x33, 0x44, 0x55, 0x66, 0x77, 0x88, 0x99, 0xAA, 0xBB, 0xCC, 0xDD, 0xEE, 0x11, 0x22, 0x33, 0x44, 0x55, 0x66, 0x77, 0x88, 0x99, 0xAA, 0xBB, 0xCC, 0xDD, 0xEE, 0x11, 0x22, 0x33],
    [0x7F, 0x11, 0x22, 0x33, 0x44, 0x55, 0x66, 0x77, 0x88, 0x99, 0xAA, 0xBB, 0xCC, 0xDD, 0xEE, 0x11, 0x22, 0x33, 0x44, 0x55, 0x66, 0x77, 0x88, 0x99, 0xAA, 0xBB, 0xCC, 0xDD, 0xEE, 0x11, 0x22, 0x33, 0x44]] : List (List Byte)).map decoded =
   [
    some (.push17 0x112233445566778899AABBCCDDEE112233),
    some (.push18 0x112233445566778899AABBCCDDEE11223344),
    some (.push19 0x112233445566778899AABBCCDDEE1122334455),
    some (.push20 0x112233445566778899AABBCCDDEE112233445566),
    some (.push21 0x112233445566778899AABBCCDDEE11223344556677),
    some (.push22 0x112233445566778899AABBCCDDEE1122334455667788),
    some (.push23 0x112233445566778899AABBCCDDEE112233445566778899),
    some (.push24 0x112233445566778899AABBCCDDEE112233445566778899AA),
    some (.push25 0x112233445566778899AABBCCDDEE112233445566778899AABB),
    some (.push26 0x112233445566778899AABBCCDDEE112233445566778899AABBCC),
    some (.push27 0x112233445566778899AABBCCDDEE112233445566778899AABBCCDD),
    some (.push28 0x112233445566778899AABBCCDDEE112233445566778899AABBCCDDEE),
    some (.push29 0x112233445566778899AABBCCDDEE112233445566778899AABBCCDDEE11),
    some (.push30 0x112233445566778899AABBCCDDEE112233445566778899AABBCCDDEE1122),
    some (.push31 0x112233445566778899AABBCCDDEE112233445566778899AABBCCDDEE112233),
    some (.push32 0x112233445566778899AABBCCDDEE112233445566778899AABBCCDDEE11223344)] := by decide +kernel
theorem test_decode_0x80_to_0x8F : ([
    [0x80], [0x81], [0x82], [0x83], [0x84], [0x85], [0x86], [0x87],
    [0x88], [0x89], [0x8A], [0x8B], [0x8C], [0x8D], [0x8E], [0x8F]] : List (List Byte)).map decoded =
   [
    some .dup1, some .dup2, some .dup3, some .dup4, some .dup5, some .dup6, some .dup7, some .dup8,
    some .dup9, some .dup10, some .dup11, some .dup12, some .dup13, some .dup14, some .dup15, some .dup16] := by decide +kernel
theorem test_decode_0x90_to_0x9F : ([
    [0x90], [0x91], [0x92], [0x93], [0x94], [0x95], [0x96], [0x97],
    [0x98], [0x99], [0x9A], [0x9B], [0x9C], [0x9D], [0x9E], [0x9F]] : List (List Byte)).map decoded =
   [
    some .swap1, some .swap2, some .swap3, some .swap4, some .swap5, some .swap6, some .swap7, some .swap8,
    some .swap9, some .swap10, some .swap11, some .swap12, some .swap13, some .swap14, some .swap15, some .swap16] := by decide +kernel
theorem test_decode_0xA0_to_0xAF : ([
    [0xA0], [0xA1], [0xA2], [0xA3], [0xA4], [0xA5], [0xA6], [0xA7],
    [0xA8], [0xA9], [0xAA], [0xAB], [0xAC], [0xAD], [0xAE], [0xAF]] : List (List Byte)).map decoded =
   [
    some .trap0xA0, some .trap0xA1, some .trap0xA2, some .trap0xA3, some .trap0xA4, some .trap0xA5, some .trap0xA6, some .trap0xA7,
    some .trap0xA8, some .trap0xA9, some .trap0xAA, some .trap0xAB, some .trap0xAC, some .trap0xAD, some .trap0xAE, some .trap0xAF] := by decide +kernel
theorem test_decode_0xB0_to_0xBF : ([
    [0xB0], [0xB1], [0xB2], [0xB3], [0xB4], [0xB5], [0xB6], [0xB7],
    [0xB8], [0xB9], [0xBA], [0xBB], [0xBC], [0xBD], [0xBE], [0xBF]] : List (List Byte)).map decoded =
   [
    some .trap0xB0, some .trap0xB1, some .trap0xB2, some .trap0xB3, some .trap0xB4, some .trap0xB5, some .trap0xB6, some .trap0xB7,
    some .trap0xB8, some .trap0xB9, some .trap0xBA, some .trap0xBB, some .trap0xBC, some .trap0xBD, some .trap0xBE, some .trap0xBF] := by decide +kernel
theorem test_decode_0xC0_to_0xCF : ([
    [0xC0], [0xC1], [0xC2], [0xC3], [0xC4], [0xC5], [0xC6], [0xC7],
    [0xC8], [0xC9], [0xCA], [0xCB], [0xCC], [0xCD], [0xCE], [0xCF]] : List (List Byte)).map decoded =
   [
    some .trap0xC0, some .trap0xC1, some .trap0xC2, some .trap0xC3, some .trap0xC4, some .trap0xC5, some .trap0xC6, some .trap0xC7,
    some .trap0xC8, some .trap0xC9, some .trap0xCA, some .trap0xCB, some .trap0xCC, some .trap0xCD, some .trap0xCE, some .trap0xCF] := by decide +kernel
theorem test_decode_0xD0_to_0xDF : ([
    [0xD0], [0xD1], [0xD2], [0xD3], [0xD4], [0xD5], [0xD6], [0xD7],
    [0xD8], [0xD9], [0xDA], [0xDB], [0xDC], [0xDD], [0xDE], [0xDF]] : List (List Byte)).map decoded =
   [
    some .trap0xD0, some .trap0xD1, some .trap0xD2, some .trap0xD3, some .trap0xD4, some .trap0xD5, some .trap0xD6, some .trap0xD7,
    some .trap0xD8, some .trap0xD9, some .trap0xDA, some .trap0xDB, some .trap0xDC, some .trap0xDD, some .trap0xDE, some .trap0xDF] := by decide +kernel
theorem test_decode_0xE0_to_0xEF : ([
    [0xE0], [0xE1], [0xE2], [0xE3], [0xE4], [0xE5], [0xE6], [0xE7],
    [0xE8], [0xE9], [0xEA], [0xEB], [0xEC], [0xED], [0xEE], [0xEF]] : List (List Byte)).map decoded =
   [
    some .trap0xE0, some .trap0xE1, some .trap0xE2, some .trap0xE3, some .trap0xE4, some .trap0xE5, some .trap0xE6, some .trap0xE7,
    some .trap0xE8, some .trap0xE9, some .trap0xEA, some .trap0xEB, some .trap0xEC, some .trap0xED, some .trap0xEE, some .trap0xEF] := by decide +kernel
theorem test_decode_0xF0_to_0xFF : ([
    [0xF0], [0xF1], [0xF2], [0xF3], [0xF4], [0xF5], [0xF6], [0xF7],
    [0xF8], [0xF9], [0xFA], [0xFB], [0xFC], [0xFD], [0xFE], [0xFF]] : List (List Byte)).map decoded =
   [
    some .trap0xF0, some .trap0xF1, some .trap0xF2, some .return_, some .trap0xF4, some .trap0xF5, some .trap0xF6, some .trap0xF7,
    some .trap0xF8, some .trap0xF9, some .trap0xFA, some .trap0xFB, some .trap0xFC, some .revert, some .invalid, some .trap0xFF] := by decide +kernel
theorem test_decode_rejects : decode tableMap [] = .error .noOpcode ∧ decode tableMap [0x60] = .error (.truncatedImmediate 1 0) ∧
    decode tableMap [0x7F, 0x01, 0x02] = .error (.truncatedImmediate 32 2) := by refine ⟨rfl, rfl, rfl⟩
theorem test_decode_rest : decode tableMap [0x61, 0xAB, 0xCD, 0x01] = .ok (.push2 0xABCD, [0x01]) := by rfl
theorem test_decodeTableWord : decodeTableWord 8 0x01 = some .add ∧ decodeTableWord 8 0x61 = some (.push2 0) ∧ decodeTableWord 24 0x020161 = some (.push2 0x0102) ∧
    decodeTableWord 8 0xF1 = some .trap0xF1 := by decide +kernel
theorem test_opmap_step : (next? (step (stO [(0x01, 0x0C)] [3, 4] [0x0C]))).map (fun t => (t.stack, t.run)) = some ([7], .running) ∧
    (next? (step (stO [(0x01, 0x0C)] [3, 4] [0x01]))).map (fun t => (t.stack, t.run)) = some ([3, 4], .trapped 0x01) := by decide +kernel  -- R7: ADD numbered 0x0C, and 0x01 left to a trap (R106)
theorem test_opmap_sweep : validJumpdests [(0x5B, 0x60)] [0x5B, 0x60, 0x60] = [2] ∧
    encode [(0x00, 0x01), (0x01, 0x02)] .stop = [0x02] ∧ decode [(0x00, 0x01), (0x01, 0x02)] [0x02] = .ok (.stop, []) := by decide +kernel  -- R7, R262: JUMPDEST numbered 0x60, PUSH1 0x5B; exchanges are made in order
theorem test_encode : encode tableMap (.push3 0x010203) = [0x62, 0x01, 0x02, 0x03] ∧ encode tableMap .sar = [0x1D] := by decide

/-! ### Arithmetic, comparison, bitwise (one operation, position 0, advancing to 1) -/

theorem test_add_wraps : result .add (st [0xFFFFFFFFFFFFFFFFFFFFFFFFFFFFFFFFFFFFFFFFFFFFFFFFFFFFFFFFFFFFFFFF, 1]) = some ([0], 1) := by decide +kernel  -- V-A2
theorem test_mul_wraps : result .mul (st [0xFFFFFFFFFFFFFFFFFFFFFFFFFFFFFFFFFFFFFFFFFFFFFFFFFFFFFFFFFFFFFFFF, 0xFFFFFFFFFFFFFFFFFFFFFFFFFFFFFFFFFFFFFFFFFFFFFFFFFFFFFFFFFFFFFFFF]) = some ([1], 1) := by decide +kernel  -- V-A7
theorem test_mul_signed : result .mul (st [0xFFFFFFFFFFFFFFFFFFFFFFFFFFFFFFFFFFFFFFFFFFFFFFFFFFFFFFFFFFFFFFFD, 5]) = some ([0xFFFFFFFFFFFFFFFFFFFFFFFFFFFFFFFFFFFFFFFFFFFFFFFFFFFFFFFFFFFFFFF1], 1) := by decide +kernel  -- V-A8
theorem test_sub : result .sub (st [5, 3]) = some ([2], 1) := by decide +kernel  -- V-A9
theorem test_sub_wraps : result .sub (st [3, 5]) = some ([0xFFFFFFFFFFFFFFFFFFFFFFFFFFFFFFFFFFFFFFFFFFFFFFFFFFFFFFFFFFFFFFFE], 1) := by decide +kernel  -- V-A10
theorem test_div_by_zero : result .div (st [10, 0]) = some ([0], 1) := by decide +kernel  -- V-A12, source example 2
theorem test_div_floor : result .div (st [10, 3]) = some ([3], 1) := by decide +kernel  -- V-A13
theorem test_sdiv_min_by_minus_one : result .sdiv (st [0x8000000000000000000000000000000000000000000000000000000000000000, 0xFFFFFFFFFFFFFFFFFFFFFFFFFFFFFFFFFFFFFFFFFFFFFFFFFFFFFFFFFFFFFFFF]) = some ([0x8000000000000000000000000000000000000000000000000000000000000000], 1) := by decide +kernel  -- V-A17
theorem test_sdiv_truncates : result .sdiv (st [0xFFFFFFFFFFFFFFFFFFFFFFFFFFFFFFFFFFFFFFFFFFFFFFFFFFFFFFFFFFFFFFF9, 2]) = some ([0xFFFFFFFFFFFFFFFFFFFFFFFFFFFFFFFFFFFFFFFFFFFFFFFFFFFFFFFFFFFFFFFD], 1) := by decide +kernel  -- V-A18
theorem test_mod : result .mod (st [10, 3]) = some ([1], 1) := by decide +kernel  -- V-A24
theorem test_mod_unsigned : result .mod (st [0xFFFFFFFFFFFFFFFFFFFFFFFFFFFFFFFFFFFFFFFFFFFFFFFFFFFFFFFFFFFFFFFF, 0x10]) = some ([15], 1) := by decide +kernel  -- V-A26
theorem test_smod_negative_dividend : result .smod (st [0xFFFFFFFFFFFFFFFFFFFFFFFFFFFFFFFFFFFFFFFFFFFFFFFFFFFFFFFFFFFFFFF9, 3]) = some ([0xFFFFFFFFFFFFFFFFFFFFFFFFFFFFFFFFFFFFFFFFFFFFFFFFFFFFFFFFFFFFFFFF], 1) := by decide +kernel  -- V-A27
theorem test_smod_negative_divisor : result .smod (st [7, 0xFFFFFFFFFFFFFFFFFFFFFFFFFFFFFFFFFFFFFFFFFFFFFFFFFFFFFFFFFFFFFFFD]) = some ([1], 1) := by decide +kernel  -- V-A28
theorem test_addmod_wide : result .addmod (st [0xFFFFFFFFFFFFFFFFFFFFFFFFFFFFFFFFFFFFFFFFFFFFFFFFFFFFFFFFFFFFFFFF, 2, 10]) = some ([7], 1) := by decide +kernel  -- V-A33
theorem test_addmod_zero : result .addmod (st [1, 2, 0]) = some ([0], 1) := by decide +kernel  -- V-A35
theorem test_mulmod_wide : result .mulmod (st [0xFFFFFFFFFFFFFFFFFFFFFFFFFFFFFFFFFFFFFFFFFFFFFFFFFFFFFFFFFFFFFFFF, 0xFFFFFFFFFFFFFFFFFFFFFFFFFFFFFFFFFFFFFFFFFFFFFFFFFFFFFFFFFFFFFFFF, 12]) = some ([9], 1) := by decide +kernel  -- V-A38
theorem test_mulmod_zero : result .mulmod (st [0xFFFFFFFFFFFFFFFFFFFFFFFFFFFFFFFFFFFFFFFFFFFFFFFFFFFFFFFFFFFFFFFF, 0xFFFFFFFFFFFFFFFFFFFFFFFFFFFFFFFFFFFFFFFFFFFFFFFFFFFFFFFFFFFFFFFF, 0]) = some ([0], 1) := by decide +kernel  -- V-A39
theorem test_exp_base_first : result .exp (st [2, 0xFF]) = some ([0x8000000000000000000000000000000000000000000000000000000000000000], 1) := by decide +kernel  -- V-A41
theorem test_exp_huge : result .exp (st [3, 0xFFFFFFFFFFFFFFFFFFFFFFFFFFFFFFFFFFFFFFFFFFFFFFFFFFFFFFFFFFFFFFFF]) = some ([0xAAAAAAAAAAAAAAAAAAAAAAAAAAAAAAAAAAAAAAAAAAAAAAAAAAAAAAAAAAAAAAAB], 1) := by decide +kernel  -- V-A49
theorem test_signextend : result .signextend (st [0, 0x180]) = some ([0xFFFFFFFFFFFFFFFFFFFFFFFFFFFFFFFFFFFFFFFFFFFFFFFFFFFFFFFFFFFFFF80], 1) := by decide +kernel  -- V-A53
theorem test_signextend_30 : result .signextend (st [0x1E, 0x0080000000000000000000000000000000000000000000000000000000000000]) = some ([0xFF80000000000000000000000000000000000000000000000000000000000000], 1) := by decide +kernel  -- V-A55
theorem test_lt : result .lt (st [1, 2]) = some ([1], 1) := by decide +kernel  -- V-B1
theorem test_lt_unsigned : result .lt (st [0xFFFFFFFFFFFFFFFFFFFFFFFFFFFFFFFFFFFFFFFFFFFFFFFFFFFFFFFFFFFFFFFF, 0]) = some ([0], 1) := by decide +kernel  -- V-B3
theorem test_gt : result .gt (st [2, 1]) = some ([1], 1) := by decide +kernel  -- V-B5
theorem test_gt_unsigned : result .gt (st [0xFFFFFFFFFFFFFFFFFFFFFFFFFFFFFFFFFFFFFFFFFFFFFFFFFFFFFFFFFFFFFFFF, 0]) = some ([1], 1) := by decide +kernel  -- V-B7
theorem test_slt : result .slt (st [0xFFFFFFFFFFFFFFFFFFFFFFFFFFFFFFFFFFFFFFFFFFFFFFFFFFFFFFFFFFFFFFFF, 0]) = some ([1], 1) := by decide +kernel  -- V-B8
theorem test_slt_extremes : result .slt (st [0x8000000000000000000000000000000000000000000000000000000000000000, 0x7FFFFFFFFFFFFFFFFFFFFFFFFFFFFFFFFFFFFFFFFFFFFFFFFFFFFFFFFFFFFFFF]) = some ([1], 1) := by decide +kernel  -- V-B10
theorem test_sgt : result .sgt (st [0, 0xFFFFFFFFFFFFFFFFFFFFFFFFFFFFFFFFFFFFFFFFFFFFFFFFFFFFFFFFFFFFFFFF]) = some ([1], 1) := by decide +kernel  -- V-B11
theorem test_sgt_not : result .sgt (st [0xFFFFFFFFFFFFFFFFFFFFFFFFFFFFFFFFFFFFFFFFFFFFFFFFFFFFFFFFFFFFFFFF, 0]) = some ([0], 1) := by decide +kernel  -- V-B12
theorem test_eq : result .eq (st [5, 5]) = some ([1], 1) := by decide +kernel  -- V-B14
theorem test_eq_not : result .eq (st [5, 6]) = some ([0], 1) := by decide +kernel  -- V-B15
theorem test_iszero : result .iszero (st [0]) = some ([1], 1) := by decide +kernel  -- V-B17
theorem test_iszero_not : result .iszero (st [0x8000000000000000000000000000000000000000000000000000000000000000]) = some ([0], 1) := by decide +kernel  -- V-B19
theorem test_and : result .and (st [0xF0F0, 0xFF00]) = some ([0xF000], 1) := by decide +kernel  -- V-B21
theorem test_or : result .or (st [0xF0F0, 0xFF00]) = some ([0xFFF0], 1) := by decide +kernel  -- V-B22
theorem test_xor : result .xor (st [0xF0F0, 0xFF00]) = some ([0xFF0], 1) := by decide +kernel  -- V-B23
theorem test_not : result .not (st [0xFF]) = some ([0xFFFFFFFFFFFFFFFFFFFFFFFFFFFFFFFFFFFFFFFFFFFFFFFFFFFFFFFFFFFFFF00], 1) := by decide +kernel  -- V-B26
theorem test_byte : result .byte (st [1, 0x000102030405060708090A0B0C0D0E0F101112131415161718191A1B1C1D1E1F]) = some ([1], 1) := by decide +kernel  -- V-B29
theorem test_byte_last : result .byte (st [0x1F, 0x000102030405060708090A0B0C0D0E0F101112131415161718191A1B1C1D1E1F]) = some ([0x1F], 1) := by decide +kernel  -- V-B30
theorem test_shl : result .shl (st [4, 0xFF]) = some ([0xFF0], 1) := by decide +kernel  -- V-B34
theorem test_shl_256 : result .shl (st [0x100, 1]) = some ([0], 1) := by decide +kernel  -- V-B37
theorem test_shr : result .shr (st [4, 0xFF]) = some ([15], 1) := by decide +kernel  -- V-B40
theorem test_shr_256 : result .shr (st [0x100, 0xFFFFFFFFFFFFFFFFFFFFFFFFFFFFFFFFFFFFFFFFFFFFFFFFFFFFFFFFFFFFFFFF]) = some ([0], 1) := by decide +kernel  -- V-B43
theorem test_sar : result .sar (st [1, 0x8000000000000000000000000000000000000000000000000000000000000000]) = some ([0xC000000000000000000000000000000000000000000000000000000000000000], 1) := by decide +kernel  -- V-B45, source example 6
theorem test_sar_256 : result .sar (st [0x100, 0x8000000000000000000000000000000000000000000000000000000000000000]) = some ([0xFFFFFFFFFFFFFFFFFFFFFFFFFFFFFFFFFFFFFFFFFFFFFFFFFFFFFFFFFFFFFFFF], 1) := by decide +kernel  -- V-B51
theorem test_add_underflow : stopped .add (st [1]) = some (.exited (.error .stackUnderflow)) := by decide  -- V-A4

/-! ### Stack -/

theorem test_pop : result .pop (st [1, 2]) = some ([2], 1) := by decide  -- V-S1
theorem test_pop_underflow : stopped .pop (st []) = some (.exited (.error .stackUnderflow)) := by decide  -- V-S2, source example 3
theorem test_push2_truncated : (next? (step (stC [] [0x61, 0xAB] 0))).map (fun t => (t.stack, t.pc)) = some ([0xAB00], 3) := by decide +kernel  -- V-S6, source example 5, conflict C1
theorem test_push4_truncated : (next? (step (stC [] [0x63, 0x12, 0x34] 0))).map (fun t => (t.stack, t.pc)) = some ([0x12340000], 5) := by decide +kernel  -- V-S8
theorem test_push32 : (next? (step (stC [] [0x7F, 0x00, 0x01, 0x02, 0x03, 0x04, 0x05, 0x06, 0x07, 0x08, 0x09, 0x0A, 0x0B, 0x0C, 0x0D, 0x0E, 0x0F, 0x10, 0x11, 0x12, 0x13, 0x14, 0x15, 0x16, 0x17, 0x18, 0x19, 0x1A, 0x1B, 0x1C, 0x1D, 0x1E, 0x1F] 0))).map (fun t => (t.stack, t.pc)) = some ([0x000102030405060708090A0B0C0D0E0F101112131415161718191A1B1C1D1E1F], 33) := by decide +kernel  -- V-S5
theorem test_push1_overflow : stopped (.push1 5) (st (sevens 1024)) = some (.exited (.error .stackOverflow)) := by decide +kernel  -- V-S10
theorem test_push_lengths : pushForms.all (fun f => result (f.2 1) (st [9]) = some ([1, 9], f.1 + 1)) = true := by decide +kernel  -- R161: every k advances by k + 1
theorem test_dup_each : dupForms.all (fun f => result f.2 (st [1, 2, 3, 4, 5, 6, 7, 8, 9, 10, 11, 12, 13, 14, 15, 16]) =
    some (BitVec.ofNat 256 f.1 :: [1, 2, 3, 4, 5, 6, 7, 8, 9, 10, 11, 12, 13, 14, 15, 16], 1)) = true := by decide +kernel  -- V-S11 to V-S13 for every n
theorem test_dup_underflow : stopped .dup2 (st [5]) = some (.exited (.error .stackUnderflow)) := by decide  -- V-S15
theorem test_swap_each : swapForms.all (fun f => (result f.2 (st [1, 2, 3, 4, 5, 6, 7, 8, 9, 10, 11, 12, 13, 14, 15, 16, 17])).map (fun r => (r.1.getD 0 0, r.1.getD f.1 0, r.1.length, r.2)) =
    some (BitVec.ofNat 256 (f.1 + 1), 1, 17, 1)) = true := by decide +kernel  -- V-S19 to V-S21 for every n
theorem test_swap3 : result .swap3 (st [1, 2, 3, 4, 5]) = some ([4, 2, 3, 1, 5], 1) := by decide  -- V-S20
theorem test_swap_underflow : stopped .swap1 (st [5]) = some (.exited (.error .stackUnderflow)) := by decide  -- V-S14, conflict C2

/-! ### Memory, call input, code -/

/-- Memory as after V-M1. -/
def memV : Memory := (List.range 32).map fun j => (j, BitVec.ofNat 8 (0xA0 + j))

theorem test_mstore : memAfter .mstore (st [0, 0xA0A1A2A3A4A5A6A7A8A9AAABACADAEAFB0B1B2B3B4B5B6B7B8B9BABBBCBDBEBF]) = some (memV, 32) := by decide +kernel  -- V-M1
theorem test_mstore_grows : memAfter .mstore (st [0x21, 0x1122]) = some ([(63, 0x11), (64, 0x22)], 96) := by decide +kernel  -- V-M6
theorem test_mload : result .mload (stM [0] memV 32) = some ([0xA0A1A2A3A4A5A6A7A8A9AAABACADAEAFB0B1B2B3B4B5B6B7B8B9BABBBCBDBEBF], 1) := by decide +kernel  -- V-M2
theorem test_mload_unaligned : (next? (exec .mload (stM [1] memV 32))).map (fun t => (t.stack, t.memLen)) =
    some ([0xA1A2A3A4A5A6A7A8A9AAABACADAEAFB0B1B2B3B4B5B6B7B8B9BABBBCBDBEBF00], 64) := by decide +kernel  -- V-M3
theorem test_mstore8_low_byte : memAfter .mstore8 (st [0x1F, 0x1234]) = some ([(31, 0x34)], 32) := by decide +kernel  -- V-M7
theorem test_mstore8_zero : memAfter .mstore8 (stM [0, 0x100] [(0, 0xFF)] 32) = some ([], 32) := by decide +kernel  -- V-M9
theorem test_msize : result .msize (stM [] [] 96) = some ([0x60], 1) := by decide +kernel  -- V-M11
theorem test_calldataload : result .calldataload (stI [2] [1, 2, 3, 4]) = some ([0x0304000000000000000000000000000000000000000000000000000000000000], 1) := by decide +kernel  -- V-M21
theorem test_calldataload_far : result .calldataload (stI [0xFFFFFFFFFFFFFFFFFFFFFFFFFFFFFFFFFFFFFFFFFFFFFFFFFFFFFFFFFFFFFFFF] [1, 2, 3, 4]) = some ([0], 1) := by decide +kernel  -- V-M23
theorem test_calldatasize : result .calldatasize (stI [] [1, 2, 3, 4]) = some ([4], 1) := by decide +kernel  -- V-M25
theorem test_calldatacopy : memAfter .calldatacopy (stI [0x1E, 0, 4] [1, 2, 3, 4]) = some ([(30, 1), (31, 2), (32, 3), (33, 4)], 64) := by decide +kernel  -- V-M28
theorem test_calldatacopy_empty : result .calldatacopy (stI [0xFFFFFFFFFFFFFFFFFFFFFFFFFFFFFFFFFFFFFFFFFFFFFFFFFFFFFFFFFFFFFFFF, 0xFFFFFFFFFFFFFFFFFFFFFFFFFFFFFFFFFFFFFFFFFFFFFFFFFFFFFFFFFFFFFFFF, 0] [1, 2, 3, 4]) = some ([], 1) := by decide +kernel  -- V-M29
theorem test_codesize : result .codesize (stC [] [0x60, 1, 0x60, 2, 1] 0) = some ([5], 1) := by decide +kernel  -- V-M33
theorem test_codecopy : memAfter .codecopy (stC [1, 3, 2] [0x60, 1, 0x60, 2, 1] 0) = some ([(1, 2), (2, 1)], 32) := by decide +kernel  -- V-M35
theorem test_codecopy_past_end : memAfter .codecopy (stC [0x40, 0x64, 1] [0x60, 1, 0x60, 2, 1] 0) = some ([], 96) := by decide +kernel  -- V-M36

/-! ### Control transfer, termination, traps -/

theorem test_pc : result .pc (stC [9] [0x60, 0, 0x58] 2) = some ([2, 9], 3) := by decide +kernel  -- V-C2
theorem test_jump : result .jump (stC [3] [0x60, 3, 0x56, 0x5B, 0] 2) = some ([], 3) := by decide +kernel  -- V-C4
theorem test_jump_into_immediate : stopped .jump (stC [4] [0x60, 4, 0x56, 0x60, 0x5B, 0] 2) = some (.exited (.error .invalidJump)) := by decide +kernel  -- V-C5
theorem test_jumpi_taken : result .jumpi (stC [0, 0x8000000000000000000000000000000000000000000000000000000000000000] [0x5B, 0x60, 1, 0x57] 3) = some ([], 0) := by decide +kernel  -- V-C12
theorem test_jumpi_not_taken : result .jumpi (stC [0x3E7, 0] [0x5B, 0x60, 1, 0x57] 3) = some ([], 4) := by decide +kernel  -- V-C14
theorem test_jumpdest : result .jumpdest (st [1, 2]) = some ([1, 2], 1) := by decide  -- V-C17
theorem test_stop : stopped .stop (st [1, 2]) = some (.exited (.succeed .stopped)) := by decide  -- V-C19
theorem test_return : exited .return_ (stM [0x1E, 4] [(31, 0x2A)] 32) = some (.exited (.succeed (.returned [0, 0x2A, 0, 0])), [], 64) := by decide +kernel  -- V-C21
theorem test_return_empty : exited .return_ (st [0xFFFFFFFFFFFFFFFFFFFFFFFFFFFFFFFFFFFFFFFFFFFFFFFFFFFFFFFFFFFFFFFF, 0]) = some (.exited (.succeed (.returned [])), [], 0) := by decide +kernel  -- V-C22
theorem test_revert : exited .revert (stM [0x1F, 1] [(31, 0x2A)] 32) = some (.exited (.revert [0x2A]), [], 32) := by decide +kernel  -- V-C27
theorem test_revert_over_limit : stopped .revert (st [1, 0xFFFFFFFFFFFFFFFFFFFFFFFFFFFFFFFFFFFFFFFFFFFFFFFFFFFFFFFFFFFFFFFF]) = some (.exited (.error .invalidRange)) := by decide +kernel  -- V-C28
theorem test_invalid : stopped .invalid (st [1, 2]) = some (.exited (.error .designatedInvalid)) := by decide  -- V-C29
theorem test_traps : trapForms.length = 149 ∧ trapForms.all (fun f => stopped f.2 (st [1, 2, 3]) = some (.trapped f.1)) = true := by decide +kernel  -- section 2.7, the exhaustive check
theorem test_validator : validJumpdests tableMap [0x5B, 0x60, 0x5B, 0x5B, 0x7F, 0x5B] = [0, 3] ∧ validJumpdests tableMap [0x54, 0x5B, 0xFF, 0x5B] = [1, 3] := by decide +kernel  -- V-J4, V-J6
theorem test_fetch_past_end : (next? (step State.reset)).map (fun t => (t.run, t.pc)) = some (.exited (.succeed .stopped), 0) := by decide +kernel  -- V-Q1
theorem test_fetch_word : (next? (step (State.reset.withFetchWord 24 0x020161))).map (fun t => (t.stack, t.pc)) = some ([0x0102], 3) := by decide +kernel  -- R161
theorem test_resume : (next? (step { st [1] with run := .trapped 0x54, hostAnswers := [.resume [7] [(3, 9)] 32 1] })).map
    (fun t => (t.stack, t.pc, t.memLen, t.run)) = some ([7], 1, 32, .running) := by decide +kernel  -- R292

/-! ### Witnesses: what meets the hypotheses of each obligation -/

/-- A state that differs from reset in its stack alone is a good state when the stack is within its limit. -/
theorem inv_st (stack : List Word) (h : stack.length ≤ 1024) : Inv (st stack) :=
  ⟨h, (by decide : 0 % 32 = 0), Nat.zero_le _, (by decide : Memory.wf []), fun _ hc => absurd hc List.not_mem_nil, Nat.zero_le _,
    Nat.zero_le _, fun _ => (by decide : 0 < 2 ^ 256), (by decide : defaultConfig.wf)⟩

/-- A good state with something in memory. -/
theorem inv_stM : Inv (stM [0xFFE0, 1] [(0, 0xA0), (31, 0xBF)] 32) :=
  ⟨by decide, by decide, by decide, by decide, by decide, by decide, by decide, fun _ => by decide, by decide⟩

/-- Both clauses of a one-operand rule, at their boundaries. -/
theorem witness_unary : (st []).stack.length < 1 ∧ (st (sevens 1024)).stack = 7 :: sevens 1023 ∧ (st (sevens 1024)).stack.length ≤ 1024 :=
  ⟨by decide, rfl, (List.length_replicate).le⟩

/-- Both clauses of a two-operand rule, at their boundaries. -/
theorem witness_binary : (st [7]).stack.length < 2 ∧ (st (sevens 1024)).stack = 7 :: 7 :: sevens 1022 ∧
    (st (sevens 1024)).stack.length ≤ 1024 :=
  ⟨by decide, rfl, (List.length_replicate).le⟩

/-- Both clauses of a three-operand rule, at their boundaries. -/
theorem witness_ternary : (st [7, 7]).stack.length < 3 ∧ (st (sevens 1024)).stack = 7 :: 7 :: 7 :: sevens 1021 ∧
    (st (sevens 1024)).stack.length ≤ 1024 :=
  ⟨by decide, rfl, (List.length_replicate).le⟩

/-- Both clauses of a pushing rule, at their boundaries. -/
theorem witness_push : (st (sevens 1024)).stack.length = 1024 ∧ (st (sevens 1023)).stack.length < 1024 :=
  ⟨List.length_replicate, by rw [show (st (sevens 1023)).stack.length = 1023 from List.length_replicate]; decide⟩

theorem witness_AddMulAreExactModulo :
    (st [7]).stack.length < 2 ∧ (st (sevens 1024)).stack = 7 :: 7 :: sevens 1022 ∧ (st (sevens 1024)).stack.length ≤ 1024 := witness_binary

theorem witness_SubIsFirstMinusSecond :
    (st [7]).stack.length < 2 ∧ (st (sevens 1024)).stack = 7 :: 7 :: sevens 1022 ∧ (st (sevens 1024)).stack.length ≤ 1024 := witness_binary

theorem witness_DivIsFloorZeroByZero :
    (st [7]).stack.length < 2 ∧ (st (sevens 1024)).stack = 7 :: 7 :: sevens 1022 ∧ (st (sevens 1024)).stack.length ≤ 1024 := witness_binary

theorem witness_SignedDivisionAndRemainders :
    (st [7]).stack.length < 2 ∧ (st (sevens 1024)).stack = 7 :: 7 :: sevens 1022 ∧ (st (sevens 1024)).stack.length ≤ 1024 := witness_binary

theorem witness_ExpIsExactPowerModulo :
    (st [7]).stack.length < 2 ∧ (st (sevens 1024)).stack = 7 :: 7 :: sevens 1022 ∧ (st (sevens 1024)).stack.length ≤ 1024 := witness_binary

theorem witness_SignextendReplicatesBit :
    (st [7]).stack.length < 2 ∧ (st (sevens 1024)).stack = 7 :: 7 :: sevens 1022 ∧ (st (sevens 1024)).stack.length ≤ 1024 := witness_binary

theorem witness_ComparisonsOrderFirstPoppedLeft :
    (st [7]).stack.length < 2 ∧ (st (sevens 1024)).stack = 7 :: 7 :: sevens 1022 ∧ (st (sevens 1024)).stack.length ≤ 1024 := witness_binary

theorem witness_ByteSelectsFromMostSignificant :
    (st [7]).stack.length < 2 ∧ (st (sevens 1024)).stack = 7 :: 7 :: sevens 1022 ∧ (st (sevens 1024)).stack.length ≤ 1024 := witness_binary

theorem witness_LogicalShiftsSaturate :
    (st [7]).stack.length < 2 ∧ (st (sevens 1024)).stack = 7 :: 7 :: sevens 1022 ∧ (st (sevens 1024)).stack.length ≤ 1024 := witness_binary

theorem witness_AddmodMulmodUseWideIntermediate :
    (st [7, 7]).stack.length < 3 ∧ (st (sevens 1024)).stack = 7 :: 7 :: 7 :: sevens 1021 ∧ (st (sevens 1024)).stack.length ≤ 1024 := witness_ternary

theorem witness_SignedDivisionIdentity :
    (1 : Word) ≠ 0 ∧ ¬ ((0x8000000000000000000000000000000000000000000000000000000000000000 : Word) = BitVec.ofNat 256 (2 ^ 255) ∧ (1 : Word) = BitVec.allOnes 256) ∧
    ¬ ((7 : Word) = BitVec.ofNat 256 (2 ^ 255) ∧ (0xFFFFFFFFFFFFFFFFFFFFFFFFFFFFFFFFFFFFFFFFFFFFFFFFFFFFFFFFFFFFFFFF : Word) = BitVec.allOnes 256) := by decide

theorem witness_EqAndIszeroPushOneOrZero :
    (st []).stack.length < 1 ∧ (st [7]).stack.length < 2 ∧ (st (sevens 1024)).stack = 7 :: 7 :: sevens 1022 ∧ (st (sevens 1024)).stack.length ≤ 1024 := ⟨by decide, witness_binary⟩

theorem witness_LogicIsBitwise :
    255 < 256 ∧ (st []).stack.length < 1 ∧ (st [7]).stack.length < 2 ∧ (st (sevens 1024)).stack = 7 :: 7 :: sevens 1022 ∧ (st (sevens 1024)).stack.length ≤ 1024 := ⟨by decide, by decide, witness_binary⟩

theorem witness_SarFloorsTowardMinusInfinity :
    (st [7]).stack.length < 2 ∧ (st (sevens 1024)).stack = 7 :: 7 :: sevens 1022 ∧ (st (sevens 1024)).stack.length ≤ 1024 ∧
    (0xFF : Word).toNat < 256 ∧ 255 < 256 := ⟨witness_binary.1, witness_binary.2.1, witness_binary.2.2, by decide, by decide⟩

theorem witness_PopDiscardsTop :
    (st []).stack = [] ∧ (st (sevens 1024)).stack = 7 :: sevens 1023 ∧ (st (sevens 1024)).stack.length ≤ 1024 := ⟨rfl, witness_unary.2⟩

theorem witness_PushImmediateIsPushed :
    (∃ f ∈ pushForms, f.1 = 32) ∧ (st (sevens 1023)).stack.length < 1024 ∧ (st (sevens 1024)).stack.length = 1024 := ⟨by decide, witness_push.2, witness_push.1⟩

theorem witness_PushStepReadsCodeBytes :
    (2, Instr.push2) ∈ pushForms ∧ (stC (sevens 1024) [0x61, 0xAB] 0).run = .running ∧
    fetchInstr (stC (sevens 1024) [0x61, 0xAB] 0) = .push2 0xAB00 ∧ (stC (sevens 1024) [0x61, 0xAB] 0).stack.length = 1024 ∧
    (stC (sevens 1023) [0x61, 0xAB] 0).run = .running ∧ fetchInstr (stC (sevens 1023) [0x61, 0xAB] 0) = .push2 0xAB00 ∧
    (stC (sevens 1023) [0x61, 0xAB] 0).stack.length < 1024 := 
  ⟨List.mem_append_left _ (.tail _ (.head _)), rfl, by decide +kernel, List.length_replicate, rfl, by decide +kernel, witness_push.2⟩

theorem witness_DupCopiesNthWord :
    (16, Instr.dup16) ∈ dupForms ∧ (st (sevens 15)).stack.length < 16 ∧ (st (sevens 1024)).stack.length = 1024 ∧
    16 ≤ (st (sevens 16)).stack.length ∧ (st (sevens 16)).stack.length < 1024 ∧ (st (sevens 16)).stack[16 - 1]? = some 7 := 
  ⟨by decide, by decide, witness_push.1, by decide, by decide, by decide⟩

theorem witness_SwapExchangesTopAndNth :
    (16, Instr.swap16) ∈ swapForms ∧ (st (sevens 16)).stack.length ≤ 16 ∧ 16 < (st (sevens 17)).stack.length ∧
    (st (sevens 17)).stack.length ≤ 1024 ∧ (15 : Nat) ≠ 0 ∧ (15 : Nat) ≠ 16 := by decide

theorem witness_ExpansionCoversAndZeroFills :
    Inv (st []) ∧ (32 : Nat) ≠ 0 ∧ (st []).cfg.memLimit < 65505 + 32 ∧ 65504 + 32 ≤ (st []).cfg.memLimit := ⟨inv_st _ (by decide), by decide, by decide, by decide⟩

theorem witness_MstoreStoresWordBigEndian :
    Inv (st [0xFFE0, 1]) ∧ (st [0xFFE0, 1]).stack = 0xFFE0 :: 1 :: [] ∧ (0xFFE0 : Word).toNat + 32 ≤ (st [0xFFE0, 1]).cfg.memLimit := 
  ⟨inv_st _ (by decide), rfl, by decide⟩

theorem witness_Mstore8StoresLowByte :
    Inv (st [0xFFFF, 1]) ∧ (st [0xFFFF, 1]).stack = 0xFFFF :: 1 :: [] ∧ (0xFFFF : Word).toNat + 1 ≤ (st [0xFFFF, 1]).cfg.memLimit := 
  ⟨inv_st _ (by decide), rfl, by decide⟩

theorem witness_MloadReadsWordBigEndian :
    Inv (stM [0xFFE0, 1] [(0, 0xA0), (31, 0xBF)] 32) ∧ (stM [0xFFE0, 1] [(0, 0xA0), (31, 0xBF)] 32).stack = 0xFFE0 :: [1] ∧
    (0xFFE0 : Word).toNat + 32 ≤ (stM [0xFFE0, 1] [(0, 0xA0), (31, 0xBF)] 32).cfg.memLimit := ⟨inv_stM, rfl, by decide⟩

theorem witness_MloadAfterMstoreReturnsValue :
    Inv (stM [0xFFE0, 1] [(0, 0xA0), (31, 0xBF)] 32) ∧ (stM [0xFFE0, 1] [(0, 0xA0), (31, 0xBF)] 32).stack = 0xFFE0 :: 1 :: [] ∧
    (0xFFE0 : Word).toNat + 32 ≤ (stM [0xFFE0, 1] [(0, 0xA0), (31, 0xBF)] 32).cfg.memLimit ∧ (sevens 1023).length < 1024 := 
  ⟨inv_stM, rfl, by decide, witness_push.2⟩

theorem witness_OverLimitAccessExitsWithRangeError :
    (st [0xFFE1]).stack.length ≤ 1024 ∧ (st [0xFFE1]).cfg.memLimit < (0xFFE1 : Word).toNat + 32 ∧
    (st [0x10000, 1]).stack = 0x10000 :: 1 :: [] ∧ (st [0x10000, 1]).cfg.memLimit < (0x10000 : Word).toNat + 1 ∧ (1 : Word).toNat ≠ 0 ∧
    (st [0xFFFF, 0, 2]).stack = 0xFFFF :: 0 :: 2 :: [] ∧ (2 : Word).toNat ≠ 0 ∧
    (st [0xFFFF, 0, 2]).cfg.memLimit < (0xFFFF : Word).toNat + (2 : Word).toNat := 
  ⟨by decide, by decide, rfl, by decide, by decide, rfl, by decide, by decide⟩

theorem witness_SizesAndPositionArePushed :
    (st (sevens 1024)).stack.length = 1024 ∧ (st (sevens 1023)).stack.length < 1024 := witness_push

theorem witness_CalldataloadPadsWithZeros :
    (stI (sevens 1024) [1, 2]).stack = 7 :: sevens 1023 ∧ (stI (sevens 1024) [1, 2]).stack.length ≤ 1024 ∧ 31 < 32 := 
  ⟨rfl, (List.length_replicate).le, by decide⟩

theorem witness_CopiesMoveBytesAndPad :
    Inv (st [0xFFFF, 0, 1]) ∧ (st [0xFFFF, 0, 1]).stack = 0xFFFF :: 0 :: 1 :: [] ∧
    ((1 : Word).toNat ≠ 0 → (0xFFFF : Word).toNat + (1 : Word).toNat ≤ (st [0xFFFF, 0, 1]).cfg.memLimit) ∧
    Inv (st [0x10000, 0, 0]) ∧ ((0 : Word).toNat ≠ 0 → (0x10000 : Word).toNat + (0 : Word).toNat ≤ (st [0x10000, 0, 0]).cfg.memLimit) := 
  ⟨inv_st _ (by decide), rfl, by decide, inv_st _ (by decide), by decide⟩

theorem witness_JumpGoesToValidTargetOnly :
    (st []).stack = [] ∧ (stC [3] [0x60, 0x03, 0x56, 0x5B, 0x00] 2).stack = 3 :: [] ∧ (stC [3] [0x60, 0x03, 0x56, 0x5B, 0x00] 2).stack.length ≤ 1024 ∧
    isValidJump tableMap (stC [3] [0x60, 0x03, 0x56, 0x5B, 0x00] 2).code 3 = true ∧ isValidJump tableMap (stC [3] [0x60, 0x03, 0x56, 0x5B, 0x00] 2).code 4 = false := by decide +kernel

theorem witness_JumpiJumpsOnNonzeroCondition :
    (st [3]).stack.length < 2 ∧ (stC [3, 1] [0x60, 0x03, 0x57, 0x5B, 0x00] 2).stack = 3 :: 1 :: [] ∧ (stC [3, 1] [0x60, 0x03, 0x57, 0x5B, 0x00] 2).stack.length ≤ 1024 ∧
    (0 : Word).toNat = 0 ∧ (1 : Word).toNat ≠ 0 ∧ isValidJump tableMap (stC [3, 1] [0x60, 0x03, 0x57, 0x5B, 0x00] 2).code 3 = true ∧
    isValidJump tableMap (stC [3, 1] [0x60, 0x03, 0x57, 0x5B, 0x00] 2).code 4 = false := by decide +kernel

theorem witness_StopAndInvalidEndTheFrame :
    ∃ t, exec .invalid (st []) = .next t ∧ t.run = .exited (.error .designatedInvalid) := ⟨_, rfl, rfl⟩

theorem witness_ReturnAndRevertExitWithMemory :
    Inv (st [0xFFFF, 1]) ∧ (st [0xFFFF, 1]).stack = 0xFFFF :: 1 :: [] ∧
    ((1 : Word).toNat ≠ 0 → (0xFFFF : Word).toNat + (1 : Word).toNat ≤ (st [0xFFFF, 1]).cfg.memLimit) ∧
    Inv (st [0x10000, 0]) ∧ ((0 : Word).toNat ≠ 0 → (0x10000 : Word).toNat + (0 : Word).toNat ≤ (st [0x10000, 0]).cfg.memLimit) := 
  ⟨inv_st _ (by decide), rfl, by decide, inv_st _ (by decide), by decide⟩

theorem witness_TrapBytesEscalateUnchanged :
    (∃ f ∈ trapForms, f.1 = 0x0C) ∧ ∃ f ∈ trapForms, f.1 = 0xFF := by decide +kernel

theorem witness_ImmediateBytesAreNeverTargets :
    Boundary tableMap [0x61, 0x5B, 0x5B, 0x5B] 0 ∧ 0 < [0x61, 0x5B, 0x5B, 0x5B].length ∧
    2 ≤ immLen tableMap (([0x61, 0x5B, 0x5B, 0x5B] : List Byte).getD 0 0) ∧ (2 : Word).toNat = 0 + 2 := ⟨.start, by decide, by decide, by decide⟩

theorem witness_StepRunsTheDecodedInstruction :
    (stC [] [0x61, 0xAB] 0).run = .running ∧
    ∃ rest, decode tableMap (bufferRead (stC [] [0x61, 0xAB] 0).code (stC [] [0x61, 0xAB] 0).pc 33) = .ok (.push2 0xAB00, rest) := ⟨rfl, _, rfl⟩

theorem witness_FetchWordIsRunNext :
    decodeTableWord 24 0x020161 = some (.push2 0x0102) ∧ 0 < (stC [] [1] 1).pc := by decide +kernel

theorem witness_FetchPastEndOfCodeStops :
    (stC [] [0x01] 1).run = .running ∧ (stC [] [0x01] 1).code.length ≤ (stC [] [0x01] 1).pc ∧ endIsStop (stC [] [0x01] 1).cfg.opmap := 
  ⟨rfl, by decide, rfl⟩

theorem witness_ExitedIsAbsorbing :
    ({ State.reset with run := .exited (.succeed .stopped) } : State).run = .exited (.succeed .stopped) := rfl

theorem witness_TrapIsAnsweredByTheHost :
    ({ State.reset with run := .trapped 0x54 } : State).hostAnswers = [] ∧
    (([] : List Word).length ≤ 1024 ∧ 65536 % 32 = 0 ∧ 65536 ≤ State.reset.cfg.memLimit ∧ Memory.wf [(65535, 1)] ∧
      (∀ c ∈ ([(65535, 1)] : Memory), c.1 < 65536) ∧ 0 < 2 ^ State.reset.cfg.pcBits) ∧
    ¬ (([] : List Word).length ≤ 1024 ∧ 33 % 32 = 0) := by decide

theorem witness_StepKeepsTheInvariants :
    Inv (stC [3, 4] [0x01] 0) ∧ ∃ t, step (stC [3, 4] [0x01] 0) = .next t := 
  ⟨⟨by decide, by decide, by decide, by decide, by decide, by decide, by decide, fun _ => by decide, by decide⟩, _, rfl⟩

theorem witness_PositionStaysWithinCodePlus32 :
    endIsStop (stC [] [0x7F] 0).cfg.opmap ∧ (stC [] [0x7F] 0).run = .running ∧ (stC [] [0x7F] 0).pc ≤ (stC [] [0x7F] 0).code.length + 32 ∧
    ∃ t, step (stC [] [0x7F] 0) = .next t ∧ t.pc = t.code.length + 32 := ⟨rfl, rfl, by decide, _, rfl, rfl⟩

theorem witness_BuffersAndParametersNeverChange :
    ∃ t, step (stC [3, 4] [0x01] 0) = .next t := ⟨_, rfl⟩

theorem witness_MemoryNeverShrinksAndKeepsUnwrittenBytes :
    Inv (stM [0xFFE0, 1] [(0, 0xA0), (31, 0xBF)] 32) ∧ ∃ t, exec .add (stM [0xFFE0, 1] [(0, 0xA0), (31, 0xBF)] 32) = .next t ∧
    Instr.add ∉ [Instr.mstore, .mstore8, .calldatacopy, .codecopy] := ⟨inv_stM, _, rfl, by decide⟩

theorem witness_ErrorExitsChangeNothing :
    ∃ t, exec .add (st [1]) = .next t ∧ t.run = .exited (.error .stackUnderflow) := ⟨_, rfl, rfl⟩

theorem witness_UnderflowExactlyBelowNeed :
    ∃ t, exec .add (st [1]) = .next t := ⟨_, rfl⟩

theorem witness_OverflowExactlyAtFullStack :
    (st (sevens 1024)).stack.length ≤ 1024 ∧ ∃ t, exec .pc (st (sevens 1024)) = .next t := by
  have h : ∀ s : State, s.stack.length = 1024 → ∃ t, exec .pc s = .next t := fun s hs =>
    ⟨_, (checked_overflow (Nat.zero_le _) (by omega) : pushWord 1 (BitVec.ofNat 256 s.pc) s = _)⟩
  exact ⟨(List.length_replicate).le, h _ List.length_replicate⟩

theorem witness_StackDepthChangesByPushesMinusPops :
    ∃ t, exec .add (st [1, 2]) = .next t ∧ ∀ e, t.run ≠ .exited (.error e) := ⟨_, rfl, fun _ h => Run.noConfusion h⟩

theorem witness_InvalidJumpExactlyOnBadTarget :
    (st [3]).stack.length ≤ 1024 ∧ ∃ t, exec .jump (st [3]) = .next t ∧ t.run = .exited (.error .invalidJump) := ⟨by decide, _, rfl, rfl⟩

theorem witness_PositionMovesByLengthOrValidJump :
    (∃ t, exec .add (st [1, 2]) = .next t ∧ t.run = .running) ∧ ∃ t, exec .stop (st []) = .next t ∧ t.run ≠ .running := 
  ⟨⟨_, rfl, rfl⟩, _, rfl, fun h => Run.noConfusion h⟩

theorem witness_NeverProducedReasonsAreUnreachable :
    (stC [0xFFE1] [0x51] 0).run = .running ∧
    ∃ t, step (stC [0xFFE1] [0x51] 0) = .next t ∧ t.run = .exited (.error .invalidRange) := ⟨rfl, _, rfl, rfl⟩

theorem witness_TrapHandsOverTheFetchedByte :
    (stC [1] [0x54] 0).run = .running ∧ ∃ t, step (stC [1] [0x54] 0) = .next t ∧ t.run = .trapped 0x54 := ⟨rfl, _, rfl, rfl⟩

theorem witness_WordBytesRoundTrip :
    31 < 32 ∧ (List.replicate 32 (0xFF : Byte)).length = 32 := by decide

theorem witness_DecodeOfEncodeIsIdentity :
    (Instr.push1 0xFF).wellFormed = true := by decide

theorem witness_EncodeOfDecodeIsIdentity :
    decode tableMap [0x61, 0xAB, 0xCD, 0x01] = .ok (.push2 0xABCD, [0x01]) ∧ 32 ≤ (List.replicate 32 (0xFF : Byte)).length := ⟨rfl, by decide⟩

end Sys2Proof.Tests
end

section
/-! PROOFS. Words and their 32 bytes (00_scope.md R9): `bytesBE` byte by byte, `beNat` as the sum it stands for, and the two round trips. -/

namespace Sys2Proof.Proofs.Bytes
open Sys2Proof.Machine

/-- Byte `i` of `bytes_be(w)` is `w[255-8i : 248-8i]`. -/
theorem bytesBE_getD (w : Word) (i : Nat) (hi : i < 32) : (bytesBE w).getD i 0 = w.extractLsb' (248 - 8 * i) 8 := by
  rw [bytesBE, beBytes_getD 32 w i hi, show 8 * (32 - 1 - i) = 248 - 8 * i by omega]

theorem bytesBE_getElem? (w : Word) (i : Nat) (hi : i < 32) : (bytesBE w)[i]? = some (w.extractLsb' (248 - 8 * i) 8) := by
  have hl : i < (bytesBE w).length := by simpa using hi
  rw [← bytesBE_getD w i hi, List.getD_eq_getElem _ _ hl, List.getElem?_eq_getElem hl]

theorem beNat_cons (b : Byte) (bs : List Byte) : beNat (b :: bs) = b.toNat * 256 ^ bs.length + beNat bs := by
  rw [show beNat (b :: bs) = beNatFrom (0 * 256 + b.toNat) bs from rfl, Nat.zero_mul, Nat.zero_add, beNatFrom_eq]

/-- Both sides have the same 32 bytes. -/
@[simp] theorem beWord_bytesBE (w : Word) : beWord (bytesBE w) = w :=
  word_eq_of_bytes _ _ fun j hj => by rw [beWord_byte _ (bytesBE_length w) j hj, bytesBE_getD w j hj]

/-- 32 bytes denote a number below `2 ^ 256`, so `W` does not reduce it. -/
theorem beWord_toNat (bs : List Byte) (h : bs.length = 32) : (beWord bs).toNat = beNat bs := by
  have hlt : beNat bs < 256 ^ 32 := h ▸ beNat_lt bs
  exact Nat.mod_eq_of_lt hlt

@[simp] theorem beNat_bytesBE (w : Word) : beNat (bytesBE w) = w.toNat := by
  rw [← beWord_toNat _ (bytesBE_length w), beWord_bytesBE]

/-- The byte sequences agree at every position, by `beWord_byte`. -/
theorem bytesBE_beWord (bs : List Byte) (h : bs.length = 32) : bytesBE (beWord bs) = bs := by
  apply List.ext_getElem (by rw [bytesBE_length, h])
  intro j hl hr
  have hj : j < 32 := h ▸ hr
  rw [← List.getD_eq_getElem _ 0 hl, ← List.getD_eq_getElem _ 0 hr, bytesBE_getD _ j hj, beWord_byte bs h j hj]

/-- Settles O57: the bytes of a word one by one, `be` as a sum over its bytes, and each round trip by its own lemma. -/
theorem wordBytesRoundTrip : Obligations.WordBytesRoundTrip :=
  ⟨fun w => ⟨bytesBE_length w, bytesBE_getElem? w, beNat_bytesBE w⟩, rfl, beNat_cons, bytesBE_beWord⟩

end Sys2Proof.Proofs.Bytes
end

section
/-! PROOFS. What an instruction can do, said once for all 256: `exec_shape` names the shared shape (Sys2Proof/Machine/Ops.lean) its meaning has, and
`exec_answers` the context it leaves and the control effect it returns (10_state.md R32, 40_dispatch.md R107). -/

namespace Sys2Proof.Proofs.Exec
open Sys2Proof.Machine Sys2Proof.Claims

/-! ### The shape of each meaning -/

/-- The meaning of `i` in `s` has one of these shapes. Each comes with the number of immediate bytes of `i` and its counts of 30_encoding.md R86. -/
inductive Shape (i : Instr) (s : State) : Prop where
  | unary (f : Word → Word) (hx : exec i s = Machine.unary f s) (hk : (encodingOf i).2.1 = 0) (hu : stackUse i = (1, 1, 1))
  | binary (f : Word → Word → Word) (hx : exec i s = Machine.binary f s) (hk : (encodingOf i).2.1 = 0) (hu : stackUse i = (2, 2, 1))
  | ternary (f : Word → Word → Word → Word) (hx : exec i s = Machine.ternary f s) (hk : (encodingOf i).2.1 = 0)
      (hu : stackUse i = (3, 3, 1))
  | push (k : Nat) (w : Word) (hx : exec i s = pushWord (k + 1) w s) (hk : (encodingOf i).2.1 = k) (hu : stackUse i = (0, 0, 1))
  | dup (n : Nat) (hx : exec i s = Machine.dup n s) (hk : (encodingOf i).2.1 = 0) (hu : stackUse i = (n, 0, 1))
  | swap (n : Nat) (hx : exec i s = Machine.swap n s) (hk : (encodingOf i).2.1 = 0) (hu : stackUse i = (n + 1, 0, 0))
  | copy (read : Nat → Nat → List Byte) (hx : exec i s = copyToMemory read s) (hi : i = .calldatacopy ∨ i = .codecopy)
      (hlen : ∀ off n, (read off n).length = n)
  | exitBytes (reason : List Byte → Reason) (hx : exec i s = exitWithBytes reason s) (hi : i = .return_ ∨ i = .revert)
  | trap (row : Byte) (hx : exec i s = trapRow row s) (hu : stackUse i = (0, 0, 0))
  | pop (hi : i = .pop)
  | mload (hi : i = .mload)
  | mstore (hi : i = .mstore)
  | mstore8 (hi : i = .mstore8)
  | jump (hi : i = .jump)
  | jumpi (hi : i = .jumpi)
  | jumpdest (hi : i = .jumpdest)
  | stop (hi : i = .stop)
  | invalid (hi : i = .invalid)

/-- The 149 instructions not named here are the trap rows. -/
theorem exec_shape (i : Instr) (s : State) : Shape i s := by
  cases i
  case iszero | not => exact .unary _ rfl rfl rfl
  case calldataload => exact .unary (fun off => beWord (inputRead s off.toNat 32)) rfl rfl rfl
  case add | mul | sub | div | sdiv | mod | smod | exp | signextend | lt | gt | slt | sgt | eq | and | or | xor | byte | shl | shr | sar =>
    exact .binary _ rfl rfl rfl
  case addmod | mulmod => exact .ternary _ rfl rfl rfl
  case pc | msize | calldatasize | codesize => exact .push 0 _ rfl rfl rfl
  case push1 | push2 | push3 | push4 | push5 | push6 | push7 | push8 | push9 | push10 | push11 | push12 | push13 | push14 | push15 | push16
      | push17 | push18 | push19 | push20 | push21 | push22 | push23 | push24 | push25 | push26 | push27 | push28 | push29 | push30
      | push31 | push32 =>
    exact .push _ _ rfl rfl rfl
  case dup1 | dup2 | dup3 | dup4 | dup5 | dup6 | dup7 | dup8 | dup9 | dup10 | dup11 | dup12 | dup13 | dup14 | dup15 | dup16 =>
    exact .dup _ rfl rfl rfl
  case swap1 | swap2 | swap3 | swap4 | swap5 | swap6 | swap7 | swap8 | swap9 | swap10 | swap11 | swap12 | swap13 | swap14 | swap15 | swap16 =>
    exact .swap _ rfl rfl rfl
  case calldatacopy => exact .copy _ rfl (.inl rfl) fun off n => bufferRead_length s.input n off
  case codecopy => exact .copy _ rfl (.inr rfl) fun off n => bufferRead_length s.code n off
  case return_ => exact .exitBytes (fun payload => .succeed (.returned payload)) rfl (.inl rfl)
  case revert => exact .exitBytes _ rfl (.inr rfl)
  case pop => exact .pop rfl
  case mload => exact .mload rfl
  case mstore => exact .mstore rfl
  case mstore8 => exact .mstore8 rfl
  case jump => exact .jump rfl
  case jumpi => exact .jumpi rfl
  case jumpdest => exact .jumpdest rfl
  case stop => exact .stop rfl
  case invalid => exact .invalid rfl
  all_goals exact .trap _ rfl rfl

/-! ### What an instruction can answer -/

/-- The control effects instruction `i` can return in `s` (10_state.md R32): only its own length to advance by, and only JUMP and JUMPI jump, to
the valid target on top. -/
inductive Returns (i : Instr) (s : State) : Control → Prop where
  | advance (n : Nat) (hn : (encodingOf i).2.1 + 1 = n) : Returns i s (.advance n)
  | jump (hi : i = .jump ∨ i = .jumpi) (hv : isValidJump s.cfg.opmap s.code (s.x 0) = true) : Returns i s (.jump (s.x 0).toNat)
  | exit (r : Reason) : Returns i s (.exit r)
  | trap (op : Byte) : Returns i s (.trap op)

/-- What instruction `i` can do to the memory of `s`: nothing, expand it within MEM_LIMIT, or, if it is one of the four that store, write to it
(20_memory.md R56 to R59). -/
inductive Touches (i : Instr) (s : State) : State → Prop where
  | nothing : Touches i s s
  | expands (a n : Nat) (hr : n ≠ 0 → a + n ≤ s.cfg.memLimit) : Touches i s (memExpand a n s)
  | writes (a : Nat) (v : List Byte) (hr : v.length ≠ 0 → a + v.length ≤ s.cfg.memLimit)
      (hi : i ∈ [Instr.mstore, .mstore8, .calldatacopy, .codecopy]) : Touches i s (memWrite a v s)

/-- A state instruction `i` can answer in `s`: some context `m` that differs from `s` in memory alone, with a new stack of legal depth, and a
control effect applied. -/
inductive Answers (i : Instr) (s : State) : State → Prop where
  | intro {c : Control} {m : State} (stack : List Word) (hc : Returns i s c) (hm : Touches i s m)
      (hs : s.stack.length ≤ 1024 → stack.length ≤ 1024) : Answers i s (apply c { m with stack := stack })

/-- An error changes nothing but the run state (40_dispatch.md R104). -/
theorem Answers.error {i : Instr} {s : State} (e : ErrorReason) : Answers i s { s with run := .exited (.error e) } :=
  .intro (c := .exit (.error e)) s.stack (.exit _) .nothing id

/-- Only the stack changes, and the position advances by the instruction's length. -/
theorem Answers.advance {i : Instr} {s : State} {stack : List Word} {n : Nat} (hn : (encodingOf i).2.1 + 1 = n)
    (hs : s.stack.length ≤ 1024 → stack.length ≤ 1024) : Answers i s { s with stack := stack, pc := s.pc + n, run := .running } :=
  .intro (c := .advance n) stack (.advance n hn) .nothing hs

/-- Only the stack changes, and the position is the valid target of a jump. -/
theorem Answers.jump {i : Instr} {s : State} {stack : List Word} (hi : i = .jump ∨ i = .jumpi)
    (hv : isValidJump s.cfg.opmap s.code (s.x 0) = true) (hs : s.stack.length ≤ 1024 → stack.length ≤ 1024) :
    Answers i s { s with stack := stack, pc := (s.x 0).toNat, run := .running } :=
  .intro (c := .jump (s.x 0).toNat) stack (.jump hi hv) .nothing hs

/-- Memory changes too, and operands are replaced by results no more than the common checks allow. -/
theorem Answers.memory {i : Instr} {s m : State} {c : Control} {p : Nat} {r : List Word} (hc : Returns i s c) (hm : Touches i s m)
    (hd : s.stack.length - p + r.length ≤ 1024) : Answers i s (apply c (replaceTop p r m)) := by
  have hst : m.stack = s.stack := by cases hm <;> simp
  exact .intro (m := m) (r ++ m.stack.drop p) hc hm fun _ => by simp [hst]; omega

/-- Every next state of every instruction, by its shape and the lemma of that shape. -/
theorem exec_answers {i : Instr} {s t : State} (h : exec i s = .next t) : Answers i s t := by
  cases exec_shape i s with
  | unary f hx hk _ =>
    rcases unary_next (hx ▸ h) with ⟨rfl, -⟩ | ⟨rfl, -⟩ | ⟨rfl, -, hd⟩
    exacts [.error _, .error _, .advance (by rw [hk]) fun _ => by simpa using hd]
  | binary f hx hk _ =>
    rcases binary_next (hx ▸ h) with ⟨rfl, -⟩ | ⟨rfl, -⟩ | ⟨rfl, -, hd⟩
    exacts [.error _, .error _, .advance (by rw [hk]) fun _ => by simpa using hd]
  | ternary f hx hk _ =>
    rcases ternary_next (hx ▸ h) with ⟨rfl, -⟩ | ⟨rfl, -⟩ | ⟨rfl, -, hd⟩
    exacts [.error _, .error _, .advance (by rw [hk]) fun _ => by simpa using hd]
  | push k w hx hk _ =>
    rcases pushWord_next (hx ▸ h) with ⟨rfl, -⟩ | ⟨rfl, hd⟩
    exacts [.error _, .advance (by rw [hk]) fun _ => hd]
  | dup n hx hk _ =>
    rcases dup_next (hx ▸ h) with ⟨rfl, -⟩ | ⟨rfl, -⟩ | ⟨rfl, -, hd⟩
    exacts [.error _, .error _, .advance (by rw [hk]) fun _ => hd]
  | swap n hx hk _ =>
    rcases swap_next (hx ▸ h) with ⟨rfl, -⟩ | ⟨rfl, -⟩ | ⟨rfl, -, hd⟩
    exacts [.error _, .error _, .advance (by rw [hk]) fun _ => by simpa using hd]
  | copy read hx hi hlen =>
    rcases copyToMemory_next (hx ▸ h) with ⟨rfl, -⟩ | ⟨rfl, -⟩ | ⟨rfl, -⟩ | ⟨rfl, -, hd, hr⟩
    · exact .error _
    · exact .error _
    · exact .error _
    · exact .memory (.advance 1 (by rcases hi with rfl | rfl <;> rfl))
        (.writes _ _ (by rwa [hlen]) (by rcases hi with rfl | rfl <;> simp)) hd
  | exitBytes reason hx hi =>
    rcases exitWithBytes_next (hx ▸ h) with ⟨rfl, -⟩ | ⟨rfl, -⟩ | ⟨rfl, -⟩ | ⟨rfl, -, hd, hr⟩
    exacts [.error _, .error _, .error _, .memory (.exit _) (.expands _ _ hr) hd]
  | trap row hx _ =>
    rw [hx, trapRow_eq] at h
    cases h
    exact .intro s.stack (.trap _) .nothing id
  | pop hi =>
    subst hi
    rcases execPop_next h with ⟨rfl, -⟩ | ⟨rfl, -⟩ | ⟨rfl, -, hd⟩
    exacts [.error _, .error _, .advance rfl fun _ => by simpa using hd]
  | mload hi =>
    subst hi
    rcases execMload_next h with ⟨rfl, -⟩ | ⟨rfl, -⟩ | ⟨rfl, -⟩ | ⟨rfl, -, hd, hr⟩
    exacts [.error _, .error _, .error _, .memory (.advance 1 rfl) (.expands _ _ fun _ => hr) hd]
  | mstore hi =>
    subst hi
    rcases execMstore_next h with ⟨rfl, -⟩ | ⟨rfl, -⟩ | ⟨rfl, -⟩ | ⟨rfl, -, hd, hr⟩
    exacts [.error _, .error _, .error _, .memory (.advance 1 rfl) (.writes _ _ (fun _ => by simpa using hr) (by simp)) hd]
  | mstore8 hi =>
    subst hi
    rcases execMstore8_next h with ⟨rfl, -⟩ | ⟨rfl, -⟩ | ⟨rfl, -⟩ | ⟨rfl, -, hd, hr⟩
    exacts [.error _, .error _, .error _, .memory (.advance 1 rfl) (.writes _ _ (fun _ => hr) (by simp)) hd]
  | jump hi =>
    subst hi
    rcases execJump_next h with ⟨rfl, -⟩ | ⟨rfl, -⟩ | ⟨rfl, -⟩ | ⟨rfl, -, hd, hv⟩
    exacts [.error _, .error _, .error _, .jump (.inl rfl) hv fun _ => by simpa using hd]
  | jumpi hi =>
    subst hi
    rcases execJumpi_next h with ⟨rfl, -⟩ | ⟨rfl, -⟩ | ⟨rfl, -⟩ | ⟨rfl, -, hd, -, hv⟩ | ⟨rfl, -, hd, -⟩
    exacts [.error _, .error _, .error _, .jump (.inr rfl) hv fun _ => by simpa using hd, .advance rfl fun _ => by simpa using hd]
  | jumpdest hi => subst hi; cases h; exact .advance (stack := s.stack) rfl id
  | stop hi => subst hi; cases h; exact .intro s.stack (.exit _) .nothing id
  | invalid hi => subst hi; cases h; exact .error _

/-! ### What the changes of memory keep -/

theorem Touches.frame {i : Instr} {s m : State} (h : Touches i s m) :
    m.pc = s.pc ∧ m.code = s.code ∧ m.input = s.input ∧ m.cfg = s.cfg ∧ m.hostAnswers = s.hostAnswers := by
  cases h <;> simp

/-- Memory never shrinks (10_state.md R27). -/
theorem Touches.memLen_le {i : Instr} {s m : State} (h : Touches i s m) : s.memLen ≤ m.memLen := by
  cases h with
  | nothing => exact Nat.le_refl _
  | expands a n _ => exact memLen_le_memExpand a n s
  | writes a v _ _ => exact memLen_le_memExpand a v.length s

/-- Where no instruction that stores is running, a good state keeps every byte (20_memory.md R56). -/
theorem Touches.read_eq {i : Instr} {s m : State} (h : Touches i s m) (hs : Inv s)
    (hi : i ∉ [Instr.mstore, .mstore8, .calldatacopy, .codecopy]) (a : Nat) : m.mem.read a = s.mem.read a := by
  cases h with
  | nothing => rfl
  | expands b n _ => exact memExpand_read b n a s hs.memInside
  | writes b v _ hw => exact absurd hw hi

theorem Touches.inv {i : Instr} {s m : State} (h : Touches i s m) (hs : Inv s) : Inv m := by
  cases h with
  | nothing => exact hs
  | expands a n hr => exact memExpand_inv a n s hs hr
  | writes a v hr _ => exact memWrite_inv a v s hs hr

/-! ### Fetch -/

theorem encode_length (m : OpMap) (i : Instr) : (encode m i).length = (encodingOf i).2.1 + 1 := by simp [encode]

/-- The longest instruction fetched has 33 bytes (30_encoding.md R80). -/
theorem encodingOf_fetchInstr_le (s : State) : (encodingOf (fetchInstr s)).2.1 ≤ 32 := by
  rw [fetchInstr, encodingOf_decodeOpcode]
  exact immLen_le _ _

/-- Where 0x00 is STOP, whatever immediate the decoder is given, a fetch past the end of code reads STOP (40_dispatch.md R109). -/
theorem fetchInstr_past_end {s : State} (he : endIsStop s.cfg.opmap) (hp : s.code.length ≤ s.pc) : fetchInstr s = .stop := by
  have h0 : tableByte s.cfg.opmap 0 = 0 := by
    have hrow := encodingOf_decodeOpcode s.cfg.opmap 0 0
    rw [he] at hrow
    exact (congrArg Prod.fst hrow).symm
  have hop : fetchOpcode s = 0 := List.getD_eq_default _ _ hp
  rw [fetchInstr, hop, decodeOpcode, h0]
  rfl

end Sys2Proof.Proofs.Exec
end

section
/-! PROOFS. The state over a step (10_state.md): what stays, how memory and position move, and the invariant. -/

namespace Sys2Proof.Proofs.StateLaws
open Sys2Proof.Machine Sys2Proof.Claims Sys2Proof.Proofs.Exec

/-- Settles O41. -/
theorem exitedIsAbsorbing : Obligations.ExitedIsAbsorbing := fun _ _ => step_exited

/-- The parameters at reset meet R7: their limits, up to `2 ^ 256`, are compared as numerals. -/
theorem reset_inv : Inv State.reset where
  stack := by decide
  granular := rfl
  bounded := Nat.zero_le _
  memForm := reset_mem_wf
  memInside := by simp [State.reset]
  code := Nat.zero_le _
  input := Nat.zero_le _
  pc := fun _ => Nat.two_pow_pos _
  cfg := by norm_num [Config.wf, State.reset, defaultConfig]

/-- Settles O43. -/
theorem resetIsEmptyAndGood : Obligations.ResetIsEmptyAndGood := ⟨rfl, rfl, rfl, rfl, rfl, reset_inv⟩

/-- Settles O54: by the control effect the instruction returns. -/
theorem positionMovesByLengthOrValidJump : Obligations.PositionMovesByLengthOrValidJump := by
  intro i s t h
  obtain ⟨stack, hc, hm, -⟩ := exec_answers h
  obtain ⟨hpc, -⟩ := hm.frame
  cases hc with
  | advance n hn => simp [hpc, encode_length, hn]
  | jump hi hv => simp [hi, hv]
  | exit r => simp [hpc]
  | trap op => simp [hpc]

/-- Settles O47: by what the instruction does to memory. -/
theorem memoryNeverShrinksAndKeepsUnwrittenBytes : Obligations.MemoryNeverShrinksAndKeepsUnwrittenBytes := by
  intro i s t hs h
  obtain ⟨stack, hc, hm, -⟩ := exec_answers h
  simp only [State.byteAt, apply_mem, apply_memLen]
  exact ⟨hm.memLen_le, hm.read_eq hs⟩

/-- Settles O46: instructions by their frame, the host's answers by what they carry. -/
theorem buffersAndParametersNeverChange : Obligations.BuffersAndParametersNeverChange := by
  intro s t h
  cases hr : s.run with
  | running =>
    rw [step_running hr] at h
    obtain ⟨stack, hc, hm, -⟩ := exec_answers h
    obtain ⟨-, hcode, hinput, hcfg, -⟩ := hm.frame
    simp [hcode, hinput, hcfg]
  | exited r =>
    rw [step_exited hr] at h
    cases h
    exact ⟨rfl, rfl, rfl⟩
  | trapped op =>
    rw [step_trapped hr] at h
    rcases hostTrap_next h with ⟨_, _, -, rfl⟩ | ⟨_, _, _, _, _, -, -, rfl⟩ <;> exact ⟨rfl, rfl, rfl⟩

/-! ### The invariant -/

/-- A Running step leaves the position where it was or within the code and one instruction more (40_dispatch.md R110): an instruction fetched
past the end is STOP, which does not advance. -/
theorem running_pc_le {s t : State} (he : endIsStop s.cfg.opmap) (h : exec (fetchInstr s) s = .next t) :
    t.pc = s.pc ∨ t.pc ≤ s.code.length + 32 := by
  rcases Nat.lt_or_ge s.pc s.code.length with hp | hp
  · obtain ⟨stack, hc, hm, -⟩ := exec_answers h
    obtain ⟨hpc, -⟩ := hm.frame
    cases hc with
    | advance n hn =>
      have hlen := encodingOf_fetchInstr_le s
      right; simp only [apply_advance_pc, hpc]; omega
    | jump hi hv =>
      have hlt := isValidJump_lt hv
      right; simp only [apply_jump_pc]; omega
    | exit r => left; simp [hpc]
    | trap op => left; simp [hpc]
  · rw [fetchInstr_past_end he hp] at h
    cases h
    exact .inl rfl

/-- A control effect and a new stack keep the invariant where depth and position stay legal. -/
theorem apply_inv {c : Control} {m : State} {stack : List Word} (hm : Inv m) (hs : stack.length ≤ 1024)
    (hpc : endIsStop m.cfg.opmap → (apply c { m with stack := stack }).pc < 2 ^ m.cfg.pcBits) : Inv (apply c { m with stack := stack }) where
  stack := by simpa using hs
  granular := by simpa using hm.granular
  bounded := by simpa using hm.bounded
  memForm := by simpa using hm.memForm
  memInside := by simpa using hm.memInside
  code := by simpa using hm.code
  input := by simpa using hm.input
  pc := by simpa using hpc
  cfg := by simpa using hm.cfg

/-- `code_len + 32` fits the position register (00_scope.md R7), so every position of `running_pc_le` does. -/
theorem running_pc_lt {s t : State} (hs : Inv s) (he : endIsStop s.cfg.opmap) (h : exec (fetchInstr s) s = .next t) :
    t.pc < 2 ^ s.cfg.pcBits := by
  obtain ⟨-, -, -, -, hfits, -⟩ := hs.cfg
  have hold := hs.pc he
  have hcode := hs.code
  rcases running_pc_le he h with hpc | hpc <;> omega

theorem running_inv {s t : State} (hs : Inv s) (h : exec (fetchInstr s) s = .next t) : Inv t := by
  have hpc := fun he => running_pc_lt hs he h
  obtain ⟨stack, hc, hm, hstack⟩ := exec_answers h
  obtain ⟨-, -, -, hcfg, -⟩ := hm.frame
  exact apply_inv (hm.inv hs) (hstack hs.stack) (hcfg ▸ hpc)

/-- A Resume is taken only where it has the invariant (60_exceptions.md R292), and an Exit changes only the run state. -/
theorem hostTrap_inv {op : Byte} {s t : State} (hs : Inv s) (h : hostTrap op s = .next t) : Inv t := by
  rcases hostTrap_next h with ⟨_, _, -, rfl⟩ | ⟨_, _, _, _, _, -, hfit, rfl⟩
  · exact { hs with }
  · obtain ⟨hstack, hgran, hbound, hform, hinside, hpc⟩ := (resumeFits_iff ..).mp hfit
    exact { hs with
      stack := hstack, granular := hgran, bounded := hbound, memForm := hform, memInside := hinside, pc := fun _ => hpc }

/-- Settles O44: by the run state, each kind of step by its lemma. -/
theorem stepKeepsTheInvariants : Obligations.StepKeepsTheInvariants := by
  intro s t hs h
  cases hr : s.run with
  | running => exact running_inv hs (step_running hr ▸ h)
  | exited r =>
    rw [step_exited hr] at h
    cases h
    exact hs
  | trapped op => exact hostTrap_inv hs (step_trapped hr ▸ h)

end Sys2Proof.Proofs.StateLaws
end

section
/-! PROOFS. Expansion of memory (20_memory.md R56, R62, R63): its range test, the new `mem_len`, and the bytes. -/

namespace Sys2Proof.Proofs.Expansion
open Sys2Proof.Machine Sys2Proof.Claims

/-- The model's and the statements' reading of the parameter OVERSIZE_ERROR (60_exceptions.md R284) agree. -/
theorem oversize_eq_overLimit (s : State) : oversize s.cfg = overLimit s := by
  unfold oversize overLimit
  cases s.cfg.oversizeError <;> rfl

@[simp] theorem rangeError_zero (cfg : Config) (addr : Nat) : rangeError cfg addr 0 = none := rfl

theorem rangeError_over {s : State} {addr n : Nat} (h0 : n ≠ 0) (h : s.cfg.memLimit < addr + n) :
    rangeError s.cfg addr n = some (overLimit s) := by
  rw [rangeError, if_neg h0, if_pos h, oversize_eq_overLimit]

theorem rangeError_within {cfg : Config} {addr n : Nat} (h : addr + n ≤ cfg.memLimit) : rangeError cfg addr n = none := by
  rw [rangeError, if_neg (Nat.not_lt.mpr h), ite_self]

@[simp] theorem memExpand_zero (addr : Nat) (s : State) : memExpand addr 0 s = s := rfl

/-- Where `mem_len` is a multiple of 32, an access it already covers has its covering multiple covered too, so the larger of the two is what the
model sets. -/
theorem memExpand_memLen_eq_grown {s : State} (hs : s.memLen % 32 = 0) (addr n : Nat) : (memExpand addr n s).memLen = grown s addr n := by
  rw [memExpand_memLen, grown, show (addr + n + 31) / 32 * 32 = ceil32 (addr + n) from rfl]
  by_cases h0 : n = 0
  · rw [if_pos h0, if_neg fun h => h.1 h0]
  rw [if_neg h0]
  by_cases hgrow : s.memLen < addr + n
  · rw [if_pos ⟨h0, hgrow⟩, Nat.max_eq_right (hgrow.le.trans (le_ceil32 _))]
  · rw [if_neg fun h => hgrow h.2, Nat.max_eq_left (ceil32_le _ _ hs (Nat.not_lt.mp hgrow))]

theorem memExpand_byteAt {s : State} (hs : Inv s) (addr n a : Nat) : (memExpand addr n s).byteAt a = s.byteAt a :=
  memExpand_read addr n a s hs.memInside

/-- A good state lists no byte at or above `mem_len` (10_state.md R27). -/
theorem byteAt_eq_zero_of_memLen_le {s : State} (hs : Inv s) {a : Nat} (ha : s.memLen ≤ a) : s.byteAt a = 0 :=
  Memory.read_eq_zero_of_ne _ _ fun c hc => ((hs.memInside c hc).trans_le ha).ne

theorem memExpand_sameBuffers (addr n : Nat) (s : State) : SameBuffers s (memExpand addr n s) := by
  simp [SameBuffers]

/-- Settles O21: the range test by its three cases, `mem_len` by `grown`, the bytes because a good state lists none above `mem_len`. -/
theorem expansionCoversAndZeroFills : Obligations.ExpansionCoversAndZeroFills := by
  intro s addr n hs
  refine ⟨?zeroLength, rangeError_over, rangeError_within, memExpand_memLen_eq_grown hs.granular addr n, ?oldBytes, ?newBytes,
    memExpand_stack .., memExpand_pc .., memExpand_run .., memExpand_sameBuffers addr n s⟩
  case zeroLength =>
    rintro rfl
    exact ⟨rangeError_zero .., memExpand_zero ..⟩
  case oldBytes =>
    exact fun a _ => memExpand_byteAt hs addr n a
  case newBytes =>
    exact fun a ha => (memExpand_byteAt hs addr n a).trans (byteAt_eq_zero_of_memLen_le hs ha)

end Sys2Proof.Proofs.Expansion
end

section
/-! PROOFS. The decoder and the encoder against each other (30_encoding.md R80 to R88): the bytes of an immediate as a number, the row of an instruction
read both ways, and `decode` by the one condition under which it succeeds. -/

namespace Sys2Proof.Proofs.Encoding
open Sys2Proof.Machine Sys2Proof.Proofs.Bytes

/-! ### Big-endian numbers -/

theorem beNat_append (as bs : List Byte) : beNat (as ++ bs) = beNat as * 256 ^ bs.length + beNat bs := by
  induction as with
  | nil => simp [beNat, beNatFrom]
  | cons a as ih => rw [List.cons_append, beNat_cons, beNat_cons, ih, List.length_append, Nat.pow_add]; ring

theorem beNat_zeros (n : Nat) : beNat (List.replicate n 0) = 0 := by
  induction n with
  | zero => rfl
  | succ n ih => rw [List.replicate_succ, beNat_cons, ih]; simp

/-- The low `k` bytes of a word denote its residue: one more byte is one more digit, base 256. -/
theorem beNat_beBytes (k : Nat) (w : Word) : beNat (beBytes k w) = w.toNat % 256 ^ k := by
  induction k with
  | zero => rw [Nat.pow_zero, Nat.mod_one]; rfl
  | succ k ih =>
    have hdigit : (w.extractLsb' (8 * k) 8).toNat = w.toNat / 256 ^ k % 256 := by
      rw [BitVec.extractLsb'_toNat, Nat.shiftRight_eq_div_pow, Nat.pow_mul]
    rw [beBytes, beNat_cons, beBytes_length, hdigit, ih, Nat.mod_pow_succ, Nat.mul_comm, Nat.add_comm]

/-- At most 32 bytes denote a number below `2 ^ 256`, so `W` does not reduce it. -/
theorem beWord_toNat_of_le {bs : List Byte} (h : bs.length ≤ 32) : (beWord bs).toNat = beNat bs := by
  have hlt : beNat bs < 256 ^ 32 := (beNat_lt bs).trans_le (Nat.pow_le_pow_right (by decide) h)
  exact Nat.mod_eq_of_lt hlt

/-- `W` only makes a number smaller. -/
theorem beWord_toNat_lt (bs : List Byte) : (beWord bs).toNat < 256 ^ bs.length :=
  (Nat.mod_le _ _).trans_lt (beNat_lt bs)

theorem beWord_beBytes {k : Nat} {w : Word} (h : w.toNat < 256 ^ k) : beWord (beBytes k w) = w := by
  rw [beWord, beNat_beBytes, Nat.mod_eq_of_lt h, BitVec.ofNat_toNat, BitVec.setWidth_eq]

/-- Byte `j` of either side is digit `j` of the number denoted. -/
theorem beBytes_beWord {bs : List Byte} {k : Nat} (hlen : bs.length = k) (hk : k ≤ 32) : beBytes k (beWord bs) = bs := by
  subst hlen
  apply List.ext_getElem (beBytes_length ..)
  intro j hl hr
  rw [← List.getD_eq_getElem _ 0 hl, ← List.getD_eq_getElem _ 0 hr, beBytes_getD _ _ j hr]
  apply BitVec.eq_of_toNat_eq
  rw [BitVec.extractLsb'_toNat, beWord_toNat_of_le hk, Nat.shiftRight_eq_div_pow, Nat.pow_mul, ← beNat_digit bs j hr]

/-! ### A read past the end of a buffer -/

/-- The bytes there are, then zeros. -/
theorem bufferRead_eq_take_append_zeros (buf : List Byte) (off k : Nat) :
    bufferRead buf off k = (buf.drop off).take k ++ List.replicate (k - min k (buf.length - off)) 0 := by
  induction k generalizing off with
  | zero => rfl
  | succ k ih =>
    rw [bufferRead, ih]
    by_cases hoff : off < buf.length
    · rw [List.getD_eq_getElem _ _ hoff, List.drop_eq_getElem_cons hoff, List.take_succ_cons, List.cons_append,
        show k + 1 - min (k + 1) (buf.length - off) = k - min k (buf.length - (off + 1)) by omega]
    · have hend : buf.length ≤ off := Nat.not_lt.mp hoff
      rw [List.getD_eq_default _ _ hend, List.drop_eq_nil_of_le hend, List.drop_eq_nil_of_le (Nat.le_succ_of_le hend)]
      simp [Nat.sub_eq_zero_of_le hend, Nat.sub_eq_zero_of_le (Nat.le_succ_of_le hend), List.replicate_succ]

/-- Settles O18: the zeros read past the end are the low digits. -/
theorem truncatedImmediateIsLeftAligned : Obligations.TruncatedImmediateIsLeftAligned := by
  intro code off k
  constructor
  · rw [bufferRead_eq_take_append_zeros, beNat_append, beNat_zeros, List.length_replicate, Nat.add_zero]
  · simpa [Nat.pow_mul] using beNat_lt (bufferRead code off k)

/-! ### The row of an instruction, read both ways -/

/-- A well-formed instruction is one whose immediate fits its immediate bytes; where there are none the immediate is 0. -/
theorem wellFormed_eq_immFits (i : Instr) : i.wellFormed = immFits (encodingOf i).2.1 (encodingOf i).2.2 := by
  cases i <;> rfl

theorem immFits_iff {k : Nat} {imm : Word} : immFits k imm = true ↔ imm.toNat < 256 ^ k := by
  rw [immFits, decide_eq_true_iff, Nat.pow_mul]

open Laws.OpcodeRoundTrip in
/-- The family of Sys2Proof/Laws/PerInstr.lean, gathered. -/
theorem opcodeRow_encodingOf (i : Instr) : Laws.OpcodeRoundTrip.Statement i := by
  cases i
  exacts [stop, add, mul, sub, div, sdiv, mod, smod, addmod, mulmod, exp, signextend, trap0x0C, trap0x0D, trap0x0E, trap0x0F, lt, gt, slt, sgt,
    eq, iszero, and, or, xor, not, byte, shl, shr, sar, trap0x1E, trap0x1F, trap0x20, trap0x21, trap0x22, trap0x23, trap0x24, trap0x25,
    trap0x26, trap0x27, trap0x28, trap0x29, trap0x2A, trap0x2B, trap0x2C, trap0x2D, trap0x2E, trap0x2F, trap0x30, trap0x31, trap0x32,
    trap0x33, trap0x34, calldataload, calldatasize, calldatacopy, codesize, codecopy, trap0x3A, trap0x3B, trap0x3C, trap0x3D, trap0x3E,
    trap0x3F, trap0x40, trap0x41, trap0x42, trap0x43, trap0x44, trap0x45, trap0x46, trap0x47, trap0x48, trap0x49, trap0x4A, trap0x4B,
    trap0x4C, trap0x4D, trap0x4E, trap0x4F, pop, mload, mstore, mstore8, trap0x54, trap0x55, jump, jumpi, pc, msize, trap0x5A, jumpdest,
    trap0x5C, trap0x5D, trap0x5E, trap0x5F, push1 _, push2 _, push3 _, push4 _, push5 _, push6 _, push7 _, push8 _, push9 _, push10 _,
    push11 _, push12 _, push13 _, push14 _, push15 _, push16 _, push17 _, push18 _, push19 _, push20 _, push21 _, push22 _, push23 _,
    push24 _, push25 _, push26 _, push27 _, push28 _, push29 _, push30 _, push31 _, push32 _, dup1, dup2, dup3, dup4, dup5, dup6, dup7,
    dup8, dup9, dup10, dup11, dup12, dup13, dup14, dup15, dup16, swap1, swap2, swap3, swap4, swap5, swap6, swap7, swap8, swap9, swap10,
    swap11, swap12, swap13, swap14, swap15, swap16, trap0xA0, trap0xA1, trap0xA2, trap0xA3, trap0xA4, trap0xA5, trap0xA6, trap0xA7,
    trap0xA8, trap0xA9, trap0xAA, trap0xAB, trap0xAC, trap0xAD, trap0xAE, trap0xAF, trap0xB0, trap0xB1, trap0xB2, trap0xB3, trap0xB4,
    trap0xB5, trap0xB6, trap0xB7, trap0xB8, trap0xB9, trap0xBA, trap0xBB, trap0xBC, trap0xBD, trap0xBE, trap0xBF, trap0xC0, trap0xC1,
    trap0xC2, trap0xC3, trap0xC4, trap0xC5, trap0xC6, trap0xC7, trap0xC8, trap0xC9, trap0xCA, trap0xCB, trap0xCC, trap0xCD, trap0xCE,
    trap0xCF, trap0xD0, trap0xD1, trap0xD2, trap0xD3, trap0xD4, trap0xD5, trap0xD6, trap0xD7, trap0xD8, trap0xD9, trap0xDA, trap0xDB,
    trap0xDC, trap0xDD, trap0xDE, trap0xDF, trap0xE0, trap0xE1, trap0xE2, trap0xE3, trap0xE4, trap0xE5, trap0xE6, trap0xE7, trap0xE8,
    trap0xE9, trap0xEA, trap0xEB, trap0xEC, trap0xED, trap0xEE, trap0xEF, trap0xF0, trap0xF1, trap0xF2, return_, trap0xF4, trap0xF5,
    trap0xF6, trap0xF7, trap0xF8, trap0xF9, trap0xFA, trap0xFB, trap0xFC, revert, invalid, trap0xFF]

theorem immLen_encodingOf (m : OpMap) (i : Instr) : immLen m (opByte m (encodingOf i).1) = (encodingOf i).2.1 := by
  rw [immLen, tableByte_opByte]
  exact (opcodeRow_encodingOf i).2

theorem decodeOpcode_encodingOf (m : OpMap) (i : Instr) : decodeOpcode m (opByte m (encodingOf i).1) (encodingOf i).2.2 = i := by
  rw [decodeOpcode, tableByte_opByte]
  exact (opcodeRow_encodingOf i).1

/-- No bytes denote 0, so an opcode without an immediate needs no case of its own. -/
theorem encodingOf_decodeOpcode_beWord (m : OpMap) (op : Byte) (bs : List Byte) :
    encodingOf (decodeOpcode m op (beWord (bs.take (immLen m op)))) = (tableByte m op, immLen m op, beWord (bs.take (immLen m op))) := by
  rw [encodingOf_decodeOpcode]
  split
  case isTrue h0 => rw [h0]; rfl
  case isFalse => rfl

/-! ### The two round trips -/

/-- `decode` succeeds exactly where the immediate bytes are all there (30_encoding.md R80, R85). -/
theorem decode_cons_eq_ok_iff {m : OpMap} {op : Byte} {bs rest : List Byte} {i : Instr} :
    decode m (op :: bs) = .ok (i, rest) ↔
      immLen m op ≤ bs.length ∧ decodeOpcode m op (beWord (bs.take (immLen m op))) = i ∧ bs.drop (immLen m op) = rest := by
  rw [decode]
  by_cases h : bs.length < immLen m op
  · simp [h]
  · simp [h, Nat.not_lt.mp h]

/-- Settles O59: the byte gives the row back, and the immediate, which fits, is the number its bytes denote. -/
theorem decodeOfEncodeIsIdentity : Obligations.DecodeOfEncodeIsIdentity := by
  intro m i rest hwf
  have hfit : (encodingOf i).2.2.toNat < 256 ^ (encodingOf i).2.1 := immFits_iff.mp (wellFormed_eq_immFits i ▸ hwf)
  have hlen : (beBytes (encodingOf i).2.1 (encodingOf i).2.2).length = (encodingOf i).2.1 := beBytes_length ..
  rw [encode, List.cons_append, decode_cons_eq_ok_iff, immLen_encodingOf, List.take_left' hlen, List.drop_left' hlen,
    beWord_beBytes hfit]
  exact ⟨by simp, decodeOpcode_encodingOf m i, rfl⟩

/-- What decodes has its own bytes back, by the row its opcode byte decodes to. -/
theorem wellFormed_and_eq_encode_of_decode {m : OpMap} {bs rest : List Byte} {i : Instr} (h : decode m bs = .ok (i, rest)) :
    i.wellFormed = true ∧ bs = encode m i ++ rest := by
  cases bs with
  | nil => cases h
  | cons op bs =>
    obtain ⟨hle, rfl, rfl⟩ := decode_cons_eq_ok_iff.mp h
    have hlen : (bs.take (immLen m op)).length = immLen m op := List.length_take_of_le hle
    constructor
    · rw [wellFormed_eq_immFits, encodingOf_decodeOpcode_beWord, immFits_iff]
      exact (beWord_toNat_lt _).trans_eq (by rw [hlen])
    · rw [encode, encodingOf_decodeOpcode_beWord, opByte_tableByte, beBytes_beWord hlen (immLen_le m op), List.cons_append,
        List.take_append_drop]

/-- Settles O60: what decodes, by the lemma above; 32 bytes are enough for every immediate. -/
theorem encodeOfDecodeIsIdentity : Obligations.EncodeOfDecodeIsIdentity :=
  ⟨fun _ _ _ _ => wellFormed_and_eq_encode_of_decode,
    fun m op _ h32 => ⟨_, _, decode_cons_eq_ok_iff.mpr ⟨(immLen_le m op).trans h32, rfl, rfl⟩⟩⟩

/-- Settles O58: each word is a closed list of bytes, which `decode` is run on. -/
theorem opcodeBytesDecode : Obligations.OpcodeBytesDecode :=
  ⟨rfl, rfl, rfl, rfl, rfl, rfl, rfl, rfl, rfl, rfl, rfl, rfl⟩

end Sys2Proof.Proofs.Encoding
end

section
/-! PROOFS. How an instruction ends (40_dispatch.md R103 to R106): in an error with nothing changed, in a trap with nothing changed, or complete, with
exactly its words popped and pushed. -/

namespace Sys2Proof.Proofs.Outcome
open Sys2Proof.Machine Sys2Proof.Claims Sys2Proof.Proofs.Exec

/-! ### The trap rows -/

/-- The table's row of each trap instruction: its byte, with no immediate. -/
theorem encodingOf_trapForm : ∀ f ∈ trapForms, encodingOf f.2 = (f.1, 0, 0) := by decide +kernel

theorem stackUse_trapForm : ∀ f ∈ trapForms, stackUse f.2 = (0, 0, 0) := by decide +kernel

/-- Each of the 149 rows by the meaning `exec` gives it. -/
theorem exec_trapForm : ∀ f ∈ trapForms, ∀ s, exec f.2 s = trapRow f.1 s := by
  simp only [trapForms, trapForms1, trapForms2, trapForms3, trapForms4, trapForms5, trapForms6, trapForms7, trapForms8, trapForms9, trapForms10,
    List.forall_mem_append, List.forall_mem_cons, List.not_mem_nil, false_implies, implies_true, and_true]
  and_intros <;> exact fun _ => rfl

/-- The trap rows, STOP, JUMPDEST and INVALID are the instructions that use no word of the stack; the last three do not trap. -/
theorem mem_trapForms {i : Instr} {s : State} {row : Byte} (hu : stackUse i = (0, 0, 0)) (hx : exec i s = trapRow row s) :
    ((encodingOf i).1, i) ∈ trapForms := by
  cases i
  case stop | jumpdest | invalid => exact Run.noConfusion (congrArg State.run (Host.Outcome.next.inj hx))
  all_goals cases hu
  all_goals decide +kernel

/-- Settles O35: the encoding from the row, the meaning from `exec`. -/
theorem trapBytesEscalateUnchanged : Obligations.TrapBytesEscalateUnchanged := by
  intro f hf
  have hrow := encodingOf_trapForm f hf
  exact ⟨fun m => by rw [encode, hrow]; rfl, by rw [encode, hrow]; rfl, exec_trapForm f hf⟩

/-! ### The ends of an instruction -/

/-- The control effects of an instruction that completes: neither an error nor a trap. -/
inductive Completes : Control → Prop where
  | advance (n : Nat) : Completes (.advance n)
  | jump (target : Nat) : Completes (.jump target)
  | succeed (how : Success) : Completes (.exit (.succeed how))
  | revert (payload : List Byte) : Completes (.exit (.revert payload))

/-- A state in which instruction `i` can end in `s`: an error and a trap change the run state alone, and completion moves the depth by the counts of
30_encoding.md R86. -/
inductive Ends (i : Instr) (s : State) : State → Prop where
  | error (e : ErrorReason) : Ends i s (failed s e)
  | trap (f : Byte × Instr) (hf : f ∈ trapForms) (hi : i = f.2) : Ends i s { s with run := .trapped (opByte s.cfg.opmap f.1) }
  | complete {need p q : Nat} {c : Control} {u : State} (hu : stackUse i = (need, p, q)) (hc : Completes c)
      (hd : u.stack.length + p = s.stack.length + q) : Ends i s (apply c u)

/-- Only stack and position change. -/
theorem Ends.running {i : Instr} {s : State} {need p q pc : Nat} {stack : List Word} (hu : stackUse i = (need, p, q))
    (hd : stack.length + p = s.stack.length + q) : Ends i s { s with stack := stack, pc := pc, run := .running } :=
  .complete (c := .jump pc) (u := { s with stack := stack }) hu (.jump pc) hd

/-- Memory changes too. -/
theorem Ends.memory {i : Instr} {s m : State} {c : Control} {need p : Nat} {r : List Word} (hu : stackUse i = (need, p, r.length))
    (hc : Completes c) (hm : m.stack = s.stack) (hp : p ≤ s.stack.length) : Ends i s (apply c (replaceTop p r m)) :=
  .complete hu hc (by simp [hm]; omega)

/-- RETURN and REVERT, whose reasons are no errors. -/
theorem exitWithBytes_ends {i : Instr} {s t : State} {reason : List Byte → Reason} (hu : stackUse i = (2, 2, 0))
    (hc : ∀ payload, Completes (.exit (reason payload))) (h : exitWithBytes reason s = .next t) : Ends i s t := by
  rcases exitWithBytes_next h with ⟨rfl, -⟩ | ⟨rfl, -⟩ | ⟨rfl, -⟩ | ⟨rfl, hp, -⟩
  exacts [.error _, .error _, .error _, .memory hu (hc _) (memExpand_stack ..) hp]

/-- Every end of every instruction, by its shape and the lemma of that shape. -/
theorem exec_ends {i : Instr} {s t : State} (h : exec i s = .next t) : Ends i s t := by
  cases exec_shape i s with
  | unary f hx _ hu =>
    rcases unary_next (hx ▸ h) with ⟨rfl, -⟩ | ⟨rfl, -⟩ | ⟨rfl, hp, -⟩
    exacts [.error _, .error _, .running hu (by simp; omega)]
  | binary f hx _ hu =>
    rcases binary_next (hx ▸ h) with ⟨rfl, -⟩ | ⟨rfl, -⟩ | ⟨rfl, hp, -⟩
    exacts [.error _, .error _, .running hu (by simp; omega)]
  | ternary f hx _ hu =>
    rcases ternary_next (hx ▸ h) with ⟨rfl, -⟩ | ⟨rfl, -⟩ | ⟨rfl, hp, -⟩
    exacts [.error _, .error _, .running hu (by simp; omega)]
  | push k w hx _ hu =>
    rcases pushWord_next (hx ▸ h) with ⟨rfl, -⟩ | ⟨rfl, -⟩
    exacts [.error _, .running hu rfl]
  | dup n hx _ hu =>
    rcases dup_next (hx ▸ h) with ⟨rfl, -⟩ | ⟨rfl, -⟩ | ⟨rfl, -⟩
    exacts [.error _, .error _, .running hu rfl]
  | swap n hx _ hu =>
    rcases swap_next (hx ▸ h) with ⟨rfl, -⟩ | ⟨rfl, -⟩ | ⟨rfl, -⟩
    exacts [.error _, .error _, .running hu (by simp)]
  | copy read hx hi _ =>
    rcases copyToMemory_next (hx ▸ h) with ⟨rfl, -⟩ | ⟨rfl, -⟩ | ⟨rfl, -⟩ | ⟨rfl, hp, -⟩
    · exact .error _
    · exact .error _
    · exact .error _
    · exact .memory (need := 3) (by rcases hi with rfl | rfl <;> rfl) (.advance 1) (memWrite_stack ..) hp
  | exitBytes _ _ hi =>
    rcases hi with rfl | rfl
    exacts [exitWithBytes_ends rfl (fun payload => .succeed (.returned payload)) h, exitWithBytes_ends rfl .revert h]
  | trap row hx hu =>
    have hf := mem_trapForms hu hx
    rw [exec_trapForm _ hf, trapRow_eq] at h
    cases h
    exact .trap _ hf rfl
  | pop hi =>
    subst hi
    rcases execPop_next h with ⟨rfl, -⟩ | ⟨rfl, -⟩ | ⟨rfl, hp, -⟩
    exacts [.error _, .error _, .running rfl (by simp; omega)]
  | mload hi =>
    subst hi
    rcases execMload_next h with ⟨rfl, -⟩ | ⟨rfl, -⟩ | ⟨rfl, -⟩ | ⟨rfl, hp, -⟩
    exacts [.error _, .error _, .error _, .memory rfl (.advance 1) (memExpand_stack ..) hp]
  | mstore hi =>
    subst hi
    rcases execMstore_next h with ⟨rfl, -⟩ | ⟨rfl, -⟩ | ⟨rfl, -⟩ | ⟨rfl, hp, -⟩
    exacts [.error _, .error _, .error _, .memory rfl (.advance 1) (memWrite_stack ..) hp]
  | mstore8 hi =>
    subst hi
    rcases execMstore8_next h with ⟨rfl, -⟩ | ⟨rfl, -⟩ | ⟨rfl, -⟩ | ⟨rfl, hp, -⟩
    exacts [.error _, .error _, .error _, .memory rfl (.advance 1) (memWrite_stack ..) hp]
  | jump hi =>
    subst hi
    rcases execJump_next h with ⟨rfl, -⟩ | ⟨rfl, -⟩ | ⟨rfl, -⟩ | ⟨rfl, hp, -⟩
    exacts [.error _, .error _, .error _, .running rfl (by simp; omega)]
  | jumpi hi =>
    subst hi
    rcases execJumpi_next h with ⟨rfl, -⟩ | ⟨rfl, -⟩ | ⟨rfl, -⟩ | ⟨rfl, hp, -⟩ | ⟨rfl, hp, -⟩
    exacts [.error _, .error _, .error _, .running rfl (by simp; omega), .running rfl (by simp; omega)]
  | jumpdest hi => subst hi; cases h; exact .complete rfl (.advance 1) rfl
  | stop hi => subst hi; cases h; exact .complete rfl (.succeed .stopped) rfl
  | invalid hi => subst hi; cases h; exact .error _

/-- Settles O48: of the three ends, only `Ends.error` leaves an error. -/
theorem errorExitsChangeNothing : Obligations.ErrorExitsChangeNothing := by
  intro i s t e h he
  cases exec_ends h with
  | error e' => cases he; rfl
  | trap f _ _ => cases he
  | complete _ hc _ => cases hc <;> cases he

/-- Settles O52: a trap row pops and pushes nothing, and completion carries the count. -/
theorem stackDepthChangesByPushesMinusPops : Obligations.StackDepthChangesByPushesMinusPops := by
  intro i s t h hne
  cases exec_ends h with
  | error e => exact absurd rfl (hne e)
  | trap f hf hi => rw [hi, stackUse_trapForm f hf]
  | complete hu _ hd => rw [hu, apply_stack]; exact hd

/-- What a trap is: a trap row, its own byte, and nothing else changed. -/
theorem exec_trapped {i : Instr} {s t : State} {op : Byte} (h : exec i s = .next t) (ht : t.run = .trapped op) :
    t = { s with run := .trapped op } ∧ ∃ f ∈ trapForms, i = f.2 ∧ opByte s.cfg.opmap f.1 = op := by
  cases exec_ends h with
  | error e => cases ht
  | trap f hf hi => cases ht; exact ⟨rfl, f, hf, hi, rfl⟩
  | complete _ hc _ => cases hc <;> cases ht

/-! ### Every instruction answers -/

/-- A check answers, with its error where it fails, if what it guards does. -/
theorem checked_answers {need p q : Nat} {s : State} {k : Unit → Result} (hk : ∃ t, k () = .next t) : ∃ t, checked need p q s k = .next t := by
  rcases checked_cases need p q s k with ⟨-, hx⟩ | ⟨-, -, hx⟩ | ⟨-, -, hx⟩ <;> rw [hx]
  exacts [⟨_, rfl⟩, ⟨_, rfl⟩, hk]

theorem ranged_answers {addr n : Nat} {s : State} {k : Unit → Result} (hk : ∃ t, k () = .next t) : ∃ t, ranged addr n s k = .next t := by
  rcases ranged_cases addr n s k with ⟨-, -, hx⟩ | ⟨-, hx⟩ <;> rw [hx]
  exacts [⟨_, rfl⟩, hk]

theorem jumpTo_answers (w : Word) (p : Nat) (s : State) : ∃ t, jumpTo w p s = .next t := by
  unfold jumpTo
  split
  exacts [⟨_, rfl⟩, ⟨_, rfl⟩]

theorem exec_exists_next (i : Instr) (s : State) : ∃ t, exec i s = .next t := by
  cases exec_shape i s with
  | unary _ hx | binary _ hx | ternary _ hx | push _ _ hx | dup _ hx | swap _ hx =>
    rw [hx]; exact checked_answers ⟨_, rfl⟩
  | copy _ hx | exitBytes _ hx => rw [hx]; exact checked_answers (ranged_answers ⟨_, rfl⟩)
  | trap _ hx => exact ⟨_, hx⟩
  | pop hi => subst hi; show ∃ t, execPop s = .next t; exact checked_answers ⟨_, rfl⟩
  | mload hi => subst hi; show ∃ t, execMload s = .next t; exact checked_answers (ranged_answers ⟨_, rfl⟩)
  | mstore hi => subst hi; show ∃ t, execMstore s = .next t; exact checked_answers (ranged_answers ⟨_, rfl⟩)
  | mstore8 hi => subst hi; show ∃ t, execMstore8 s = .next t; exact checked_answers (ranged_answers ⟨_, rfl⟩)
  | jump hi => subst hi; show ∃ t, execJump s = .next t; exact checked_answers (jumpTo_answers ..)
  | jumpi hi =>
    subst hi
    show ∃ t, execJumpi s = .next t
    apply checked_answers
    split
    exacts [jumpTo_answers .., ⟨_, rfl⟩]
  | jumpdest hi | stop hi | invalid hi => subst hi; exact ⟨_, rfl⟩

/-- Settles O49: what an answer leaves unchanged, by `exec_answers`. -/
theorem everyInstructionAnswersANextState : Obligations.EveryInstructionAnswersANextState := by
  intro i s
  obtain ⟨t, h⟩ := exec_exists_next i s
  refine ⟨t, h, ?_⟩
  obtain ⟨stack, -, hm, -⟩ := exec_answers h
  obtain ⟨-, hcode, hinput, hcfg, hhost⟩ := hm.frame
  simp [SameBuffers, hcode, hinput, hcfg, hhost]

end Sys2Proof.Proofs.Outcome
end

section
/-! PROOFS. Fetch and dispatch (40_dispatch.md R101, R102, R107 to R110): the instruction at the position as `decode` reads it, past the end of code,
and where a table word was placed. -/

namespace Sys2Proof.Proofs.Fetch
open Sys2Proof.Machine Sys2Proof.Claims Sys2Proof.Proofs.Exec Sys2Proof.Proofs.StateLaws Sys2Proof.Proofs.Encoding Sys2Proof.Proofs.Outcome

/-! ### The decoder and fetch -/

/-- A shorter read gives the first bytes of a longer one. -/
theorem bufferRead_take (buf : List Byte) {k n : Nat} (h : k ≤ n) (off : Nat) : (bufferRead buf off n).take k = bufferRead buf off k := by
  induction n generalizing k off with
  | zero => rw [Nat.le_zero.mp h]; rfl
  | succ n ih =>
    cases k with
    | zero => rfl
    | succ k => rw [bufferRead, bufferRead, List.take_succ_cons, ih (Nat.le_of_succ_le_succ h)]

/-- 33 bytes hold the longest instruction, so `decode` on them reads what fetch reads. -/
theorem fetchInstr_of_decode {s : State} {i : Instr} {rest : List Byte}
    (h : decode s.cfg.opmap (bufferRead s.code s.pc 33) = .ok (i, rest)) : fetchInstr s = i := by
  obtain ⟨-, hi, -⟩ := decode_cons_eq_ok_iff.mp h
  rwa [bufferRead_take _ (immLen_le ..)] at hi

/-- Settles O38: fetch gives the decoded instruction, and a Running step is `exec` of it. -/
theorem stepRunsTheDecodedInstruction : Obligations.StepRunsTheDecodedInstruction := by
  intro s i rest hrun h
  have hfetch := fetchInstr_of_decode h
  exact ⟨hfetch, by rw [step_running hrun, hfetch]⟩

/-- The table is injective: an instruction is determined by its row. -/
theorem encodingOf_injective : Function.Injective encodingOf := by
  intro i j h
  rw [← decodeOpcode_encodingOf tableMap i, h, decodeOpcode_encodingOf]

/-- An instruction without an immediate is fetched exactly where the byte at the position is the one OPMAP gives its row. -/
theorem fetchInstr_eq_iff {s : State} {i : Instr} {row : Byte} (hrow : encodingOf i = (row, 0, 0)) :
    fetchInstr s = i ↔ fetchOpcode s = opByte s.cfg.opmap row := by
  rw [← encodingOf_injective.eq_iff, fetchInstr, encodingOf_decodeOpcode, hrow]
  constructor
  · intro h
    have hbyte : tableByte s.cfg.opmap (fetchOpcode s) = row := congrArg Prod.fst h
    rw [← hbyte, opByte_tableByte]
  · intro h
    have hlen := immLen_encodingOf s.cfg.opmap i
    rw [hrow] at hlen
    rw [h, tableByte_opByte, hlen, if_pos rfl]

/-- Settles O56: a trap comes from a trap row, and the row fetched is the one of the byte at the position. -/
theorem trapHandsOverTheFetchedByte : Obligations.TrapHandsOverTheFetchedByte := by
  intro s t op hrun h
  rw [step_running hrun] at h
  refine ⟨⟨fun ht => ?traps, ?fetched⟩, fun ht => (exec_trapped h ht).1⟩
  case traps =>
    obtain ⟨-, f, hf, hfetch, hop⟩ := exec_trapped h ht
    rw [fetchInstr_eq_iff (encodingOf_trapForm f hf)] at hfetch
    exact ⟨hfetch.trans hop, f, hf, hop⟩
  case fetched =>
    rintro ⟨hfetch, f, hf, rfl⟩
    rw [(fetchInstr_eq_iff (encodingOf_trapForm f hf)).mpr hfetch, exec_trapForm f hf, trapRow_eq] at h
    cases h
    rfl

/-! ### Past the end of code -/

theorem bufferRead_past_end {buf : List Byte} {off : Nat} (h : buf.length ≤ off) (k : Nat) : bufferRead buf off k = List.replicate k 0 := by
  rw [bufferRead_eq_take_append_zeros, List.drop_eq_nil_of_le h, Nat.sub_eq_zero_of_le h]
  simp

/-- Opcode and immediate are both read as zeros. -/
theorem fetchInstr_past_end_eq {s : State} (h : s.code.length ≤ s.pc) : fetchInstr s = decodeOpcode s.cfg.opmap 0 0 := by
  have hop : fetchOpcode s = 0 := List.getD_eq_default _ _ h
  rw [fetchInstr, hop, codeRead, bufferRead_past_end (Nat.le_succ_of_le h), beWord, beNat_zeros]
  rfl

/-- Settles O40: fetch reads 0x00 there, and STOP exits. -/
theorem fetchPastEndOfCodeStops : Obligations.FetchPastEndOfCodeStops := by
  refine ⟨rfl, fun s hrun hend => ?_⟩
  have hstep : step s = exec (decodeOpcode s.cfg.opmap 0 0) s := by rw [step_running hrun, fetchInstr_past_end_eq hend]
  exact ⟨hstep, fun hstop => by rw [hstep, hstop]; rfl⟩

/-- Settles O45: the position after a step by `running_pc_le`, and the code is as before. -/
theorem positionStaysWithinCodePlus32 : Obligations.PositionStaysWithinCodePlus32 := by
  intro s t hstop hrun hpc h
  obtain ⟨hcode, -⟩ := buffersAndParametersNeverChange s t h
  rw [step_running hrun] at h
  rw [hcode]
  rcases running_pc_le hstop h with hsame | hle
  · rwa [hsame]
  · exact hle

/-! ### A placed table word -/

/-- Before the placed bytes stands what a read of the old code up to there gives: its own bytes, then zeros. -/
theorem placeCode_eq (code : List Byte) (pos : Nat) (bytes : List Byte) :
    placeCode code pos bytes = bufferRead code 0 pos ++ (bytes ++ code.drop (pos + bytes.length)) := by
  rw [placeCode, bufferRead_eq_take_append_zeros, List.drop_zero, List.append_assoc, Nat.sub_zero,
    show pos - min pos code.length = pos - code.length by omega]

theorem placeCode_getD_of_lt (code bytes : List Byte) {pos j : Nat} (h : j < pos) : (placeCode code pos bytes).getD j 0 = code.getD j 0 := by
  rw [placeCode_eq, List.getD_append _ _ _ _ (by simpa using h), bufferRead_getD _ _ _ _ h, Nat.zero_add]

/-- Placed bytes are read back. -/
theorem bufferRead_placeCode (code : List Byte) (pos : Nat) (bytes : List Byte) :
    bufferRead (placeCode code pos bytes) pos bytes.length = bytes := by
  have hdrop : (placeCode code pos bytes).drop pos = bytes ++ code.drop (pos + bytes.length) := by
    rw [placeCode_eq, List.drop_left' (bufferRead_length ..)]
  have hlen : bytes.length ≤ (placeCode code pos bytes).length - pos := by rw [← List.length_drop, hdrop]; simp
  rw [bufferRead_eq_take_append_zeros, hdrop, List.take_left, Nat.min_eq_left hlen, Nat.sub_self, List.replicate_zero, List.append_nil]

theorem leBytes_length (n w : Nat) : (leBytes n w).length = n := by
  induction n generalizing w with
  | zero => rfl
  | succ n ih => rw [leBytes, List.length_cons, ih]

/-- The renumbered word decodes under the map as the word does in the table. -/
theorem decode_renumber (m : OpMap) (bs : List Byte) : decode m (renumber m bs) = decode tableMap bs := by
  cases bs with
  | nil => rfl
  | cons op bs =>
    have hlen : immLen m (opByte m op) = immLen tableMap op := by rw [immLen, tableByte_opByte]; rfl
    have hmake (imm : Word) : decodeOpcode m (opByte m op) imm = decodeOpcode tableMap op imm := by
      rw [decodeOpcode, tableByte_opByte]; rfl
    rw [renumber, decode, decode, hlen, hmake]

theorem renumber_length (m : OpMap) (bs : List Byte) : (renumber m bs).length = bs.length := by
  cases bs <;> rfl

theorem decode_of_decodeTableWord {nbits w : Nat} {i : Instr} (h : decodeTableWord nbits w = some i) :
    ∃ rest, decode tableMap (tableBytes nbits w) = .ok (i, rest) := by
  unfold decodeTableWord at h
  split at h
  next hd => cases h; exact ⟨_, hd⟩
  next => cases h

/-- The bytes at the position are the 33 of the word, renumbered. -/
theorem fetchInstr_withFetchWord {s : State} {nbits w : Nat} {i : Instr} (h : decodeTableWord nbits w = some i) :
    fetchInstr (s.withFetchWord nbits w) = i := by
  obtain ⟨rest, hd⟩ := decode_of_decodeTableWord h
  have hlen : (renumber s.cfg.opmap (tableBytes nbits w)).length = 33 := by rw [renumber_length, tableBytes, leBytes_length]
  have hread := bufferRead_placeCode s.code s.pc (renumber s.cfg.opmap (tableBytes nbits w))
  rw [hlen] at hread
  apply fetchInstr_of_decode (rest := rest)
  rw [withFetchWord_code, withFetchWord_pc, withFetchWord_cfg, hread, decode_renumber, hd]

/-- Settles O39: fetch gives the placed instruction, and placing keeps what stands before it. -/
theorem fetchWordIsRunNext : Obligations.FetchWordIsRunNext := by
  intro s nbits w i h
  refine ⟨?_, _, rfl, fun j hj => placeCode_getD_of_lt _ _ hj⟩
  rw [step_running (withFetchWord_run ..), fetchInstr_withFetchWord h]

end Sys2Proof.Proofs.Fetch
end

section
/-! PROOFS. An instruction of the shared shape `binary` or `ternary` (Sys2Proof/Machine/Ops.lean) obeys the rule the statements give for it, once its
function of words is the one the rule names. -/

namespace Sys2Proof.Proofs.OperandRules
open Sys2Proof.Machine Sys2Proof.Claims Sys2Proof.Proofs.Exec

/-- The three facts an instruction has to show: its meaning, that it has no immediate, and what its function computes. -/
theorem binaryRule_of_exec {i : Instr} {f g : Word → Word → Word} (hx : ∀ s, exec i s = binary f s) (hk : (encodingOf i).2.1 = 0)
    (hfg : ∀ a b, f a b = g a b) : BinaryRule i g := by
  refine ⟨fun m => by rw [encode_length, hk], fun s => ⟨fun hd => ?_, fun a b rest hs hd => ?_⟩⟩
  · rw [hx, binary, checked_underflow hd, raise_eq, failed]
  · rw [hx, binary, checked_pass (by simp [hs]) (by omega), finish_eq]
    simp [apply, replaceTop, done, State.x, hs, hfg]

theorem ternaryRule_of_exec {i : Instr} {f g : Word → Word → Word → Word} (hx : ∀ s, exec i s = ternary f s) (hk : (encodingOf i).2.1 = 0)
    (hfg : ∀ a b n, f a b n = g a b n) : TernaryRule i g := by
  refine ⟨fun m => by rw [encode_length, hk], fun s => ⟨fun hd => ?_, fun a b n rest hs hd => ?_⟩⟩
  · rw [hx, ternary, checked_underflow hd, raise_eq, failed]
  · rw [hx, ternary, checked_pass (by simp [hs]) (by omega), finish_eq]
    simp [apply, replaceTop, done, State.x, hs, hfg]

end Sys2Proof.Proofs.OperandRules
end

section
/-! PROOFS. The arithmetic instructions (41_arithmetic.md): each function of Sys2Proof/Machine/Alu.lean as the integers its rule speaks of, then the
statements. -/

namespace Sys2Proof.Proofs.Arithmetic
open Sys2Proof.Machine Sys2Proof.Proofs.OperandRules

/-! ### Unsigned arithmetic -/

/-- The zero test of the ALU is the one of the statements. -/
theorem eq_zero_iff_toNat (b : Word) : b = 0 ↔ b.toNat = 0 := BitVec.toNat_inj.symm

theorem add_eq_ofNat (a b : Word) : Alu.add a b = BitVec.ofNat 256 (a.toNat + b.toNat) := by
  simp [Alu.add, BitVec.ofNat_add]

theorem mul_eq_ofNat (a b : Word) : Alu.mul a b = BitVec.ofNat 256 (a.toNat * b.toNat) := by
  simp [Alu.mul, BitVec.ofNat_mul]

theorem sub_eq_ofInt (a b : Word) : Alu.sub a b = BitVec.ofInt 256 ((a.toNat : Int) - (b.toNat : Int)) := by
  rw [Alu.sub, BitVec.sub_eq_add_neg, Int.sub_eq_add_neg, BitVec.ofInt_add, BitVec.ofInt_neg]
  simp

/-- Settles O1. -/
theorem addMulAreExactModulo : Obligations.AddMulAreExactModulo :=
  ⟨binaryRule_of_exec (fun _ => rfl) rfl add_eq_ofNat, binaryRule_of_exec (fun _ => rfl) rfl mul_eq_ofNat⟩

/-- Settles O2. -/
theorem subIsFirstMinusSecond : Obligations.SubIsFirstMinusSecond := binaryRule_of_exec (fun _ => rfl) rfl sub_eq_ofInt

/-- Settles O3. -/
theorem divIsFloorZeroByZero : Obligations.DivIsFloorZeroByZero :=
  binaryRule_of_exec (fun _ => rfl) rfl fun a b => by simp only [Alu.div, eq_zero_iff_toNat]

/-- Settles O6. -/
theorem addmodMulmodUseWideIntermediate : Obligations.AddmodMulmodUseWideIntermediate :=
  ⟨ternaryRule_of_exec (fun _ => rfl) rfl fun a b n => by simp only [Alu.addmod, eq_zero_iff_toNat],
    ternaryRule_of_exec (fun _ => rfl) rfl fun a b n => by simp only [Alu.mulmod, eq_zero_iff_toNat]⟩

/-! ### Signed division -/

/-- R125's form of the quotient truncated toward zero: its sign, times the quotient of the magnitudes. -/
theorem tdiv_eq_sign_mul (a b : Int) : Int.tdiv a b = a.sign * b.sign * ((a.natAbs / b.natAbs : Nat) : Int) := by
  have hparts : (Int.tdiv a b).sign * ((a.natAbs / b.natAbs : Nat) : Int) = Int.tdiv a b := by
    have h := Int.sign_mul_natAbs (Int.tdiv a b)
    rwa [Int.natAbs_tdiv] at h
  rw [← hparts, Int.sign_tdiv]
  split
  · next hlt => simp [Nat.div_eq_of_lt hlt]
  · rfl

/-- R127's form of the truncated remainder: the remainder of the magnitudes, with the sign of the dividend. -/
theorem tmod_eq_sign_mul (a b : Int) : Int.tmod a b = (if 0 ≤ a then 1 else -1) * ((a.natAbs % b.natAbs : Nat) : Int) := by
  rw [← Int.natAbs_tmod]
  split
  · next ha =>
    have := Int.tmod_nonneg b ha
    omega
  · next ha =>
    have := Int.tmod_nonneg b (a := -a) (by omega)
    rw [Int.neg_tmod] at this
    omega

theorem smod_eq_ofInt_tmod {a b : Word} (hb : b ≠ 0) : Alu.smod a b = BitVec.ofInt 256 (Int.tmod a.toInt b.toInt) := by
  rw [Alu.smod, if_neg hb, tmod_eq_sign_mul]
  split <;> simp

/-- Settles O4: SDIV and SMOD by the two forms above. -/
theorem signedDivisionAndRemainders : Obligations.SignedDivisionAndRemainders := by
  refine ⟨binaryRule_of_exec (f := Alu.sdiv) (fun _ => rfl) rfl fun a b => ?_, binaryRule_of_exec (f := Alu.mod) (fun _ => rfl) rfl fun a b => ?_,
    binaryRule_of_exec (f := Alu.smod) (fun _ => rfl) rfl fun a b => ?_⟩
  · simp only [Alu.sdiv, tdiv_eq_sign_mul, eq_zero_iff_toNat]
  · simp only [Alu.mod, eq_zero_iff_toNat]
  · by_cases hb : b = 0
    · simp [Alu.smod, hb]
    · rw [smod_eq_ofInt_tmod hb, tmod_eq_sign_mul, if_neg (mt (eq_zero_iff_toNat b).mpr hb)]

/-- SDIV is the library's truncated division of words, which is 0 by zero too. -/
theorem sdiv_eq_bitVecSdiv (a b : Word) : Alu.sdiv a b = a.sdiv b := by
  by_cases hb : b = 0
  · simp [Alu.sdiv, hb]
  · apply BitVec.eq_of_toInt_eq
    rw [Alu.sdiv, if_neg hb, BitVec.toInt_ofInt, BitVec.toInt_sdiv]

/-- By a divisor other than 0, SMOD is the library's remainder of words with the dividend's sign. -/
theorem smod_eq_bitVecSrem {a b : Word} (hb : b ≠ 0) : Alu.smod a b = a.srem b := by
  rw [smod_eq_ofInt_tmod hb, ← BitVec.toInt_srem, BitVec.ofInt_toInt]

/-- `MIN_S` and `NEG1` (00_scope.md R8) as the library writes them. -/
theorem intMin_eq : BitVec.intMin 256 = BitVec.ofNat 256 (2 ^ 255) := rfl

theorem toInt_natAbs_pos {b : Word} (hb : b ≠ 0) : 0 < b.toInt.natAbs :=
  Int.natAbs_pos.mpr fun h => hb (BitVec.eq_of_toInt_eq h)

/-- Settles O5: the library's wrapping quotient and exact quotient, and the identity of the truncated quotient and remainder. -/
theorem signedDivisionIdentity : Obligations.SignedDivisionIdentity := by
  refine ⟨?_, fun a b hb => ⟨fun hne => ?_, ?_, ?_⟩⟩
  · rw [sdiv_eq_bitVecSdiv, ← BitVec.neg_one_eq_allOnes, ← intMin_eq, BitVec.intMin_sdiv_neg_one]
  · rw [← BitVec.neg_one_eq_allOnes, ← intMin_eq] at hne
    rw [sdiv_eq_bitVecSdiv, BitVec.toInt_sdiv_of_ne_or_ne a b (not_and_or.mp hne)]
  · rw [smod_eq_bitVecSrem hb, BitVec.toInt_srem, Int.tdiv_mul_add_tmod]
  · rw [smod_eq_bitVecSrem hb, BitVec.toInt_srem, Int.natAbs_tmod]
    exact Nat.mod_lt _ (toInt_natAbs_pos hb)

/-! ### Powers -/

/-- The loop's invariant: `acc * p ^ e` stays the same while the exponent is halved. -/
theorem expLoop_eq_mul_pow (fuel : Nat) (acc p : Word) (e : Nat) (he : e < 2 ^ fuel) : Alu.expLoop fuel acc p e = acc * p ^ e := by
  induction fuel generalizing acc p e with
  | zero =>
    obtain rfl : e = 0 := by omega
    simp [Alu.expLoop]
  | succ fuel ih =>
    have hpow : p ^ e = p ^ (e % 2) * (p * p) ^ (e / 2) := by
      rw [← pow_two, ← pow_mul, ← pow_add, Nat.mod_add_div]
    rw [Alu.expLoop, ih _ _ _ (by omega), hpow]
    rcases Nat.mod_two_eq_zero_or_one e with h | h <;> simp [h, mul_assoc]

theorem exp_eq_ofNat (a b : Word) : Alu.exp a b = BitVec.ofNat 256 (a.toNat ^ b.toNat) := by
  rw [Alu.exp, expLoop_eq_mul_pow 256 1 a b.toNat b.isLt, one_mul, ← BitVec.natCast_eq_ofNat, Nat.cast_pow]
  simp

/-- Settles O7. -/
theorem expIsExactPowerModulo : Obligations.ExpIsExactPowerModulo := binaryRule_of_exec (fun _ => rfl) rfl exp_eq_ofNat

/-! ### Sign extension -/

/-- The mask of the low `n` bits. -/
theorem getLsbD_lowMask (n i : Nat) (hi : i < 256) : (BitVec.ofNat 256 (2 ^ n - 1)).getLsbD i = decide (i < n) := by
  rw [BitVec.getLsbD_ofNat, Nat.testBit_two_pow_sub_one, decide_eq_true hi, Bool.true_and]

/-- The mask of the bits from `n` on. -/
theorem getLsbD_highMask (n i : Nat) (hn : n ≤ 256) (hi : i < 256) : (BitVec.ofNat 256 (2 ^ 256 - 2 ^ n)).getLsbD i = !decide (i < n) := by
  have hlow : 2 ^ n - 1 < 2 ^ 256 := by
    have := Nat.pow_le_pow_right (n := 2) (by decide) hn
    have := Nat.two_pow_pos n
    omega
  rw [BitVec.getLsbD_ofNat, ← Nat.sub_add_cancel (Nat.two_pow_pos n), Nat.testBit_two_pow_sub_succ hlow,
    Nat.testBit_two_pow_sub_one]
  simp [hi]

/-- Bit by bit: below `8k + 8` the bits of `x`, from there on the sign bit `8k + 7`. -/
theorem signextend_eq_signExtend (k x : Word) :
    Alu.signextend k x = if 31 ≤ k.toNat then x else (x.setWidth (8 * k.toNat + 8)).signExtend 256 := by
  rw [Alu.signextend]
  split
  · rfl
  · next hk =>
    apply BitVec.eq_of_getLsbD_eq
    intro i hi
    have hsign : (x.setWidth (8 * k.toNat + 8)).msb = x.getLsbD (8 * k.toNat + 7) := by
      simp [BitVec.msb_eq_getLsbD_last]
    rw [BitVec.getLsbD_signExtend, hsign, BitVec.getLsbD_setWidth]
    split
    · next hbit =>
      rw [BitVec.getLsbD_or, getLsbD_highMask _ i (by omega) hi]
      by_cases hlow : i < 8 * k.toNat + 8 <;> simp [hi, hlow, hbit]
    · next hbit =>
      rw [BitVec.getLsbD_and, getLsbD_lowMask _ i hi]
      by_cases hlow : i < 8 * k.toNat + 8 <;> simp [hi, hlow, hbit]

/-- Settles O8. -/
theorem signextendReplicatesBit : Obligations.SignextendReplicatesBit := binaryRule_of_exec (fun _ => rfl) rfl signextend_eq_signExtend

end Sys2Proof.Proofs.Arithmetic
end

section
/-! PROOFS. The comparison, bitwise and shift instructions (42_bitwise.md): each function of Sys2Proof/Machine/Alu.lean as the numbers or the bits its
rule speaks of, then the statements. -/

namespace Sys2Proof.Proofs.Bitwise
open Sys2Proof.Machine Sys2Proof.Claims Sys2Proof.Proofs.Exec Sys2Proof.Proofs.OperandRules Sys2Proof.Proofs.Arithmetic

/-- What `binaryRule_of_exec` says, for the shared shape `unary`. -/
theorem unaryRule_of_exec {i : Instr} {f g : Word → Word} (hx : ∀ s, exec i s = unary f s) (hk : (encodingOf i).2.1 = 0)
    (hfg : ∀ a, f a = g a) : UnaryRule i g := by
  refine ⟨fun m => by rw [encode_length, hk], fun s => ⟨fun hd => ?_, fun a rest hs hd => ?_⟩⟩
  · rw [hx, unary, checked_underflow hd, raise_eq, failed]
  · rw [hx, unary, checked_pass (by simp [hs]) (by omega), finish_eq]
    simp [apply, replaceTop, done, State.x, hs, hfg]

/-! ### Arithmetic shift -/

/-- Below 256 the shift is the floor of the signed value divided by the power of two. -/
theorem sshiftRight_eq_ofInt_fdiv (x : Word) (n : Nat) : x.sshiftRight n = BitVec.ofInt 256 (Int.fdiv x.toInt (2 ^ n)) := by
  have hfloor : Int.fdiv x.toInt (2 ^ n) = (x.sshiftRight n).toInt := by
    rw [BitVec.toInt_sshiftRight, Int.shiftRight_eq_div_pow, Int.fdiv_eq_ediv_of_nonneg _ (by positivity)]
    norm_cast
  rw [hfloor, BitVec.ofInt_toInt]

theorem sar_eq_ofInt_fdiv (s x : Word) :
    Alu.sar s x = if 256 ≤ s.toNat then (if x.getLsbD 255 then BitVec.ofNat 256 (2 ^ 256 - 1) else 0)
      else BitVec.ofInt 256 (Int.fdiv x.toInt (2 ^ s.toNat)) := by
  rw [Alu.sar, sshiftRight_eq_ofInt_fdiv, BitVec.msb_eq_getLsbD_last]
  rfl

/-- A bit of the shifted word is the bit `s` places above it, the sign bit where there is none. -/
theorem getLsbD_sar {s : Word} (x : Word) {i : Nat} (hs : s.toNat < 256) (hi : i < 256) :
    (Alu.sar s x).getLsbD i = if i + s.toNat ≤ 255 then x.getLsbD (i + s.toNat) else x.getLsbD 255 := by
  rw [Alu.sar, if_neg (by omega), BitVec.getLsbD_sshiftRight, BitVec.msb_eq_getLsbD_last, Nat.add_comm i]
  simp [hi, Nat.lt_succ_iff]

/-- Settles O14. -/
theorem sarFloorsTowardMinusInfinity : Obligations.SarFloorsTowardMinusInfinity :=
  ⟨binaryRule_of_exec (fun _ => rfl) rfl sar_eq_ofInt_fdiv, fun _ x hs _ hi => getLsbD_sar x hs hi⟩

/-! ### Comparisons -/

theorem truth_eq_bit {b : Bool} {p : Prop} [Decidable p] (h : b = true ↔ p) : truth b = bit p := by
  simp only [truth, bit, h]

/-- Settles O9. -/
theorem comparisonsOrderFirstPoppedLeft : Obligations.ComparisonsOrderFirstPoppedLeft :=
  ⟨binaryRule_of_exec (f := Alu.lt) (fun _ => rfl) rfl fun _ _ => truth_eq_bit decide_eq_true_iff,
    binaryRule_of_exec (f := Alu.gt) (fun _ => rfl) rfl fun _ _ => truth_eq_bit decide_eq_true_iff,
    binaryRule_of_exec (f := Alu.slt) (fun _ => rfl) rfl fun _ _ => truth_eq_bit decide_eq_true_iff,
    binaryRule_of_exec (f := Alu.sgt) (fun _ => rfl) rfl fun _ _ => truth_eq_bit decide_eq_true_iff⟩

/-- Settles O10. -/
theorem eqAndIszeroPushOneOrZero : Obligations.EqAndIszeroPushOneOrZero :=
  ⟨binaryRule_of_exec (f := Alu.eq) (fun _ => rfl) rfl fun _ _ => truth_eq_bit beq_iff_eq,
    unaryRule_of_exec (f := Alu.iszero) (fun _ => rfl) rfl fun a => truth_eq_bit (beq_iff_eq.trans (eq_zero_iff_toNat a))⟩

/-! ### Logic and bytes -/

/-- Settles O11. -/
theorem logicIsBitwise : Obligations.LogicIsBitwise := by
  refine ⟨⟨Alu.and, binaryRule_of_exec (fun _ => rfl) rfl fun _ _ => rfl, fun a b j _ => ?_⟩,
    ⟨Alu.or, binaryRule_of_exec (fun _ => rfl) rfl fun _ _ => rfl, fun a b j _ => ?_⟩,
    ⟨Alu.xor, binaryRule_of_exec (fun _ => rfl) rfl fun _ _ => rfl, fun a b j _ => ?_⟩,
    ⟨Alu.not, unaryRule_of_exec (fun _ => rfl) rfl fun _ => rfl, fun a j hj => ?_⟩⟩
  · exact BitVec.getLsbD_and
  · exact BitVec.getLsbD_or
  · exact BitVec.getLsbD_xor
  · rw [Alu.not, BitVec.getLsbD_not, decide_eq_true hj, Bool.true_and]

theorem byte_eq_ofNat (i x : Word) :
    Alu.byte i x = if 32 ≤ i.toNat then 0 else BitVec.ofNat 256 (x.toNat / 2 ^ (8 * (31 - i.toNat)) % 256) := by
  rw [Alu.byte, show 248 - 8 * i.toNat = 8 * (31 - i.toNat) by omega, ← BitVec.ofNat_toNat, BitVec.extractLsb'_toNat,
    Nat.shiftRight_eq_div_pow]

/-- Settles O12. -/
theorem byteSelectsFromMostSignificant : Obligations.ByteSelectsFromMostSignificant := binaryRule_of_exec (fun _ => rfl) rfl byte_eq_ofNat

/-! ### Logical shifts -/

theorem shl_eq_ofNat (s x : Word) : Alu.shl s x = if 256 ≤ s.toNat then 0 else BitVec.ofNat 256 (x.toNat * 2 ^ s.toNat) := by
  rw [Alu.shl, ← Nat.shiftLeft_eq]
  rfl

theorem shr_eq_ofNat (s x : Word) : Alu.shr s x = if 256 ≤ s.toNat then 0 else BitVec.ofNat 256 (x.toNat / 2 ^ s.toNat) := by
  rw [Alu.shr, ← Nat.shiftRight_eq_div_pow, ← BitVec.toNat_ushiftRight, BitVec.ofNat_toNat, BitVec.setWidth_eq]

/-- Settles O13. -/
theorem logicalShiftsSaturate : Obligations.LogicalShiftsSaturate :=
  ⟨binaryRule_of_exec (fun _ => rfl) rfl shl_eq_ofNat, binaryRule_of_exec (fun _ => rfl) rfl shr_eq_ofNat⟩

end Sys2Proof.Proofs.Bitwise
end

section
/-! PROOFS. The stack instructions (43_stack.md): the shared operation each form runs (Sys2Proof/Machine/Ops.lean), what that operation answers at each
depth, then the statements. -/

namespace Sys2Proof.Proofs.Stack
open Sys2Proof.Machine Sys2Proof.Claims Sys2Proof.Proofs.Exec

/-! ### The forms -/

/-- The encoding of PUSH-k carries its whole immediate, as `k` bytes (30_encoding.md R83). -/
theorem encodingOf_pushForm : ∀ f ∈ pushForms, ∀ imm, (encodingOf (f.2 imm)).2 = (f.1, imm) := by
  simp only [pushForms, pushForms1, pushForms2, List.forall_mem_append, List.forall_mem_cons, List.not_mem_nil, false_implies, implies_true,
    and_true]
  and_intros <;> exact fun _ => rfl

theorem exec_pushForm : ∀ f ∈ pushForms, ∀ imm s, exec (f.2 imm) s = pushWord (f.1 + 1) imm s := by
  simp only [pushForms, pushForms1, pushForms2, List.forall_mem_append, List.forall_mem_cons, List.not_mem_nil, false_implies, implies_true,
    and_true]
  and_intros <;> exact fun _ _ => rfl

/-- No PUSH has an empty immediate. -/
theorem pushForm_ne_zero : ∀ f ∈ pushForms, f.1 ≠ 0 := by decide

/-- The immediate fetched is the number of the `k` code bytes after the opcode (30_encoding.md R83). -/
theorem imm_of_fetchInstr {f : Nat × (Word → Instr)} (hf : f ∈ pushForms) {s : State} {imm : Word} (h : fetchInstr s = f.2 imm) :
    imm = beWord (bufferRead s.code (s.pc + 1) f.1) := by
  have hrow := encodingOf_pushForm f hf imm
  rw [← h, fetchInstr, encodingOf_decodeOpcode, Prod.mk.injEq] at hrow
  obtain ⟨hlen, himm⟩ := hrow
  rw [hlen, if_neg (pushForm_ne_zero f hf)] at himm
  exact himm.symm

theorem encodingOf_dupForm : ∀ f ∈ dupForms, (encodingOf f.2).2.1 = 0 := by decide

/-- No DUP needs a full stack. -/
theorem dupForm_le : ∀ f ∈ dupForms, f.1 ≤ 16 := by decide

theorem exec_dupForm : ∀ f ∈ dupForms, ∀ s, exec f.2 s = dup f.1 s := by
  simp only [dupForms, List.forall_mem_cons, List.not_mem_nil, false_implies, implies_true, and_true]
  and_intros <;> exact fun _ => rfl

theorem encodingOf_swapForm : ∀ f ∈ swapForms, (encodingOf f.2).2.1 = 0 := by decide

theorem exec_swapForm : ∀ f ∈ swapForms, ∀ s, exec f.2 s = swap f.1 s := by
  simp only [swapForms, List.forall_mem_cons, List.not_mem_nil, false_implies, implies_true, and_true]
  and_intros <;> exact fun _ => rfl

/-! ### What the shared operations answer at each depth -/

theorem raise_eq_failed (e : ErrorReason) (s : State) : raise e s = .next (failed s e) := rfl

theorem finish_replaceTop (n p : Nat) (r : List Word) (s : State) :
    finish (.advance n) (replaceTop p r s) = .next (done s n (r ++ s.stack.drop p)) := rfl

theorem finish_swapTop (n : Nat) (s : State) : finish (.advance 1) (swapTop n s) = .next (done s 1 (swapTop n s).stack) := rfl

theorem execPop_underflow {s : State} (h : s.stack.length < 1) : execPop s = .next (failed s .stackUnderflow) := by
  rw [execPop, checked_underflow h, raise_eq_failed]

theorem execPop_done {s : State} (h : 1 ≤ s.stack.length) (hd : s.stack.length ≤ 1024) :
    execPop s = .next (done s 1 (s.stack.drop 1)) := by
  rw [execPop, checked_pass h (by omega), finish_replaceTop, List.nil_append]

theorem pushWord_done {len : Nat} {w : Word} {s : State} (h : s.stack.length < 1024) :
    pushWord len w s = .next (done s len (w :: s.stack)) := by
  rw [pushWord, checked_pass (Nat.zero_le _) (by omega), finish_replaceTop, List.drop_zero, List.singleton_append]

theorem pushWord_overflow {len : Nat} {w : Word} {s : State} (h : s.stack.length = 1024) :
    pushWord len w s = .next (failed s .stackOverflow) := by
  rw [pushWord, checked_overflow (Nat.zero_le _) (by omega), raise_eq_failed]

theorem dup_underflow {n : Nat} {s : State} (h : s.stack.length < n) : dup n s = .next (failed s .stackUnderflow) := by
  rw [dup, checked_underflow h, raise_eq_failed]

theorem dup_overflow {n : Nat} {s : State} (hn : n ≤ s.stack.length) (h : s.stack.length = 1024) :
    dup n s = .next (failed s .stackOverflow) := by
  rw [dup, checked_overflow hn (by omega), raise_eq_failed]

theorem dup_done {n : Nat} {s : State} (hn : n ≤ s.stack.length) (h : s.stack.length < 1024) :
    dup n s = .next (done s 1 (s.x (n - 1) :: s.stack)) := by
  rw [dup, checked_pass hn (by omega), finish_replaceTop, List.drop_zero, List.singleton_append]

theorem swap_underflow {n : Nat} {s : State} (h : s.stack.length ≤ n) : swap n s = .next (failed s .stackUnderflow) := by
  rw [swap, checked_underflow (Nat.lt_succ_of_le h), raise_eq_failed]

theorem swap_done {n : Nat} {s : State} (hn : n < s.stack.length) (h : s.stack.length ≤ 1024) :
    swap n s = .next (done s 1 (swapTop n s).stack) := by
  rw [swap, checked_pass hn (by omega), finish_swapTop]

/-! ### The words of an exchanged stack -/

theorem getElem?_eq_x {s : State} {i : Nat} (h : i < s.stack.length) : s.stack[i]? = some (s.x i) := by
  rw [x_eq_getElem s i h, List.getElem?_eq_getElem h]

theorem swapTop_getElem?_zero {n : Nat} {s : State} (h : n < s.stack.length) : (swapTop n s).stack[0]? = s.stack[n]? := by
  have h0 : 0 < s.stack.length := by omega
  rw [swapTop_stack, getElem?_eq_x h]
  cases n with
  | zero => simp [h0]
  | succ n => simp [h0]

theorem swapTop_getElem?_self {n : Nat} {s : State} (h : n < s.stack.length) : (swapTop n s).stack[n]? = s.stack[0]? := by
  rw [swapTop_stack, getElem?_eq_x (by omega), List.getElem?_set_self (by simpa using h)]

theorem swapTop_getElem?_of_ne {n j : Nat} (s : State) (h0 : j ≠ 0) (hn : j ≠ n) : (swapTop n s).stack[j]? = s.stack[j]? := by
  rw [swapTop_stack, List.getElem?_set_ne hn.symm, List.getElem?_set_ne h0.symm]

/-! ### The statements -/

/-- Settles O16. -/
theorem pushImmediateIsPushed : Obligations.PushImmediateIsPushed := by
  intro f hf imm s
  rw [exec_pushForm f hf]
  exact ⟨pushWord_done, pushWord_overflow⟩

/-- Settles O17: the step executes the fetched PUSH-k, whose immediate is the one read from the code. -/
theorem pushStepReadsCodeBytes : Obligations.PushStepReadsCodeBytes := by
  intro f hf s imm hrun hfetch
  have hexec := pushImmediateIsPushed f hf imm s
  rw [← hfetch, ← step_running hrun, imm_of_fetchInstr hf hfetch] at hexec
  exact ⟨by rw [encode_length, encodingOf_pushForm f hf], hexec⟩

/-- Settles O15. -/
theorem popDiscardsTop : Obligations.PopDiscardsTop := by
  refine ⟨fun m => encode_length m .pop, fun s => ⟨fun hs => ?_, fun a rest hs hd => ?_⟩⟩
  · exact execPop_underflow (by simp [hs])
  · have hpop : execPop s = .next (done s 1 (s.stack.drop 1)) := execPop_done (by simp [hs]) hd
    rwa [hs, List.drop_one, List.tail_cons] at hpop

/-- Settles O19: no form needs more than 16 words, so a full stack has them. -/
theorem dupCopiesNthWord : Obligations.DupCopiesNthWord := by
  intro f hf
  refine ⟨fun m => by rw [encode_length, encodingOf_dupForm f hf], fun s => ?_⟩
  rw [exec_dupForm f hf]
  refine ⟨dup_underflow, fun hd => ?_, fun hn hd v hv => ?_⟩
  · have hle := dupForm_le f hf
    exact dup_overflow (by omega) hd
  · have hx : s.x (f.1 - 1) = v := by rw [State.x, List.getD_eq_getElem?_getD, hv, Option.getD_some]
    rw [dup_done hn hd, hx]

/-- Settles O20: the exchanged stack, read at `0`, at `n` and elsewhere. -/
theorem swapExchangesTopAndNth : Obligations.SwapExchangesTopAndNth := by
  intro f hf
  refine ⟨fun m => by rw [encode_length, encodingOf_swapForm f hf], fun s => ?_⟩
  rw [exec_swapForm f hf]
  refine ⟨swap_underflow, fun hn hd => ⟨_, swap_done hn hd, ?_, ?_⟩⟩
  · rw [swapTop_stack, List.length_set, List.length_set]
  · exact ⟨swapTop_getElem?_zero hn, swapTop_getElem?_self hn, fun _ => swapTop_getElem?_of_ne s⟩

end Sys2Proof.Proofs.Stack
end

section
/-! PROOFS. The memory, call-input and code-access instructions (44_memory_data.md): what the shared operations answer in a good state, the bytes
that loads read and stores write, then the statements. -/

namespace Sys2Proof.Proofs.MemoryData
open Sys2Proof.Machine Sys2Proof.Claims Sys2Proof.Proofs.Exec Sys2Proof.Proofs.Bytes Sys2Proof.Proofs.Expansion Sys2Proof.Proofs.Stack

/-! ### The state after `Continue(n)` -/

@[simp] theorem done_stack (s : State) (n : Nat) (stack : List Word) : (done s n stack).stack = stack := rfl
@[simp] theorem done_pc (s : State) (n : Nat) (stack : List Word) : (done s n stack).pc = s.pc + n := rfl
@[simp] theorem done_run (s : State) (n : Nat) (stack : List Word) : (done s n stack).run = .running := rfl
@[simp] theorem done_mem (s : State) (n : Nat) (stack : List Word) : (done s n stack).mem = s.mem := rfl
@[simp] theorem done_memLen (s : State) (n : Nat) (stack : List Word) : (done s n stack).memLen = s.memLen := rfl
@[simp] theorem done_code (s : State) (n : Nat) (stack : List Word) : (done s n stack).code = s.code := rfl
@[simp] theorem done_input (s : State) (n : Nat) (stack : List Word) : (done s n stack).input = s.input := rfl
@[simp] theorem done_cfg (s : State) (n : Nat) (stack : List Word) : (done s n stack).cfg = s.cfg := rfl
@[simp] theorem done_hostAnswers (s : State) (n : Nat) (stack : List Word) : (done s n stack).hostAnswers = s.hostAnswers := rfl

/-! ### The words on the stack -/

theorem x_one_cons {s : State} {a b : Word} {rest : List Word} (h : s.stack = a :: b :: rest) : s.x 1 = b := by
  rw [State.x, h]; rfl

theorem x_two_cons {s : State} {a b c : Word} {rest : List Word} (h : s.stack = a :: b :: c :: rest) : s.x 2 = c := by
  rw [State.x, h]; rfl

/-! ### What the instructions answer when no check fails -/

theorem unary_done {f : Word → Word} {s : State} {a : Word} {rest : List Word} (hst : s.stack = a :: rest) (hd : s.stack.length ≤ 1024) :
    unary f s = .next (done s 1 (f a :: rest)) := by
  rw [unary, checked_pass (by simp [hst]) (by omega), finish_replaceTop, x_zero_cons s a rest hst, hst]
  rfl

/-- An instruction that makes both checks, then leaves the context `m` with the operands `ops` replaced by the results `r` (40_dispatch.md R103,
R104), no more results than operands: both checks pass. -/
theorem checked_ranged_done {s m : State} {a n : Nat} {ops r rest : List Word} (hst : s.stack = ops ++ rest)
    (hd : s.stack.length ≤ 1024) (hle : r.length ≤ ops.length) (hr : n ≠ 0 → a + n ≤ s.cfg.memLimit) (hm : m.stack = s.stack) :
    (checked ops.length ops.length r.length s fun _ => ranged a n s fun _ => finish (.advance 1) (replaceTop ops.length r m)) =
      .next (done m 1 (r ++ rest)) := by
  have hops : ops.length ≤ s.stack.length := by simp [hst]
  rw [checked_pass hops (by omega), ranged_pass hr, finish_replaceTop, hm, hst, List.drop_left]

theorem exec_mload {s : State} {addr : Word} {rest : List Word} (hst : s.stack = addr :: rest) (hd : s.stack.length ≤ 1024)
    (hr : addr.toNat + 32 ≤ s.cfg.memLimit) :
    exec .mload s = .next (done (memExpand addr.toNat 32 s) 1 (beWord (memBytes addr.toNat 32 s) :: rest)) := by
  show execMload s = _
  rw [execMload, x_zero_cons s _ _ hst]
  exact checked_ranged_done (ops := [addr]) (r := [_]) hst hd (Nat.le_refl _) (fun _ => hr) (memExpand_stack ..)

theorem exec_mstore {s : State} {addr v : Word} {rest : List Word} (hst : s.stack = addr :: v :: rest) (hd : s.stack.length ≤ 1024)
    (hr : addr.toNat + 32 ≤ s.cfg.memLimit) : exec .mstore s = .next (done (memWrite addr.toNat (bytesBE v) s) 1 rest) := by
  show execMstore s = _
  rw [execMstore, x_zero_cons s _ _ hst, x_one_cons hst]
  exact checked_ranged_done (ops := [addr, v]) (r := []) hst hd (Nat.zero_le _) (fun _ => hr) (memWrite_stack ..)

theorem exec_mstore8 {s : State} {addr v : Word} {rest : List Word} (hst : s.stack = addr :: v :: rest) (hd : s.stack.length ≤ 1024)
    (hr : addr.toNat + 1 ≤ s.cfg.memLimit) : exec .mstore8 s = .next (done (memWrite addr.toNat [v.extractLsb' 0 8] s) 1 rest) := by
  show execMstore8 s = _
  rw [execMstore8, x_zero_cons s _ _ hst, x_one_cons hst]
  exact checked_ranged_done (ops := [addr, v]) (r := []) hst hd (Nat.zero_le _) (fun _ => hr) (memWrite_stack ..)

theorem copyToMemory_done {read : Nat → Nat → List Byte} {s : State} {dst src len : Word} {rest : List Word}
    (hst : s.stack = dst :: src :: len :: rest) (hd : s.stack.length ≤ 1024)
    (hr : len.toNat ≠ 0 → dst.toNat + len.toNat ≤ s.cfg.memLimit) :
    copyToMemory read s = .next (done (memWrite dst.toNat (read src.toNat len.toNat) s) 1 rest) := by
  rw [copyToMemory, x_zero_cons s _ _ hst, x_one_cons hst, x_two_cons hst]
  exact checked_ranged_done (ops := [dst, src, len]) (r := []) hst hd (Nat.zero_le _) hr (memWrite_stack ..)

/-! ### The bytes of a load -/

/-- Memory needs no canonical form here, only that nothing is listed at or above `mem_len` (10_state.md R27). -/
theorem beWord_memBytes_byte {s : State} (h : ∀ c ∈ s.mem, c.1 < s.memLen) (a : Nat) {j : Nat} (hj : j < 32) :
    (beWord (memBytes a 32 s)).extractLsb' (248 - 8 * j) 8 = s.byteAt (a + j) := by
  rw [memBytes, beWord_byte _ (Memory.readBytes_length ..) j hj, Memory.readBytes_getD _ _ _ _ hj, memExpand_read _ _ _ _ h, State.byteAt]

/-- A buffer reads 0 past its end (20_memory.md R60, R61). -/
theorem bufferRead_getD_eq_ite (buf : List Byte) (off : Nat) {n j : Nat} (hj : j < n) :
    (bufferRead buf off n).getD j 0 = if off + j < buf.length then buf.getD (off + j) 0 else 0 := by
  rw [bufferRead_getD _ _ _ _ hj]
  split
  · rfl
  · exact List.getD_eq_default _ _ (by omega)

/-! ### The bytes of a store -/

theorem memWrite_byteAt_written {s : State} {a : Nat} {v : List Byte} (hs : Inv s) (hr : v.length ≠ 0 → a + v.length ≤ s.cfg.memLimit)
    {j : Nat} (hj : j < v.length) : (memWrite a v s).byteAt (a + j) = v.getD j 0 := by
  rw [State.byteAt, memWrite_read _ _ _ _ hs hr, if_pos (by omega), Nat.add_sub_cancel_left]

theorem memWrite_byteAt_other {s : State} {a : Nat} {v : List Byte} (hs : Inv s) (hr : v.length ≠ 0 → a + v.length ≤ s.cfg.memLimit)
    {x : Nat} (hx : x < a ∨ a + v.length ≤ x) : (memWrite a v s).byteAt x = s.byteAt x := by
  rw [State.byteAt, memWrite_read _ _ _ _ hs hr, if_neg (by omega), State.byteAt]

/-- In a state that holds the memory of a store of `v`, a load at the same address reads the 32 bytes written. -/
theorem beWord_memBytes_of_store {s t : State} {a : Nat} {v : Word} (hs : Inv s) (hr : a + 32 ≤ s.cfg.memLimit)
    (hmem : t.mem = (memWrite a (bytesBE v) s).mem) (hlen : t.memLen = (memWrite a (bytesBE v) s).memLen) :
    beWord (memBytes a 32 t) = v := by
  have hlimit : (bytesBE v).length ≠ 0 → a + (bytesBE v).length ≤ s.cfg.memLimit := fun _ => by rwa [bytesBE_length]
  have hinside : ∀ c ∈ t.mem, c.1 < t.memLen := by rw [hmem, hlen]; exact (memWrite_inv a _ s hs hlimit).memInside
  refine word_eq_of_bytes _ _ fun j hj => ?_
  calc (beWord (memBytes a 32 t)).extractLsb' (248 - 8 * j) 8
    _ = t.byteAt (a + j) := beWord_memBytes_byte hinside a hj
    _ = (memWrite a (bytesBE v) s).byteAt (a + j) := by rw [State.byteAt, hmem, State.byteAt]
    _ = (bytesBE v).getD j 0 := memWrite_byteAt_written hs hlimit (by rwa [bytesBE_length])
    _ = v.extractLsb' (248 - 8 * j) 8 := bytesBE_getD v j hj

/-- A load at the address of a store pushes the word stored, whatever else the stack holds by then. -/
theorem exec_mload_after_store {s t : State} {addr v : Word} {rest : List Word} (hs : Inv s) (hr : addr.toNat + 32 ≤ s.cfg.memLimit)
    (hmem : t.mem = (memWrite addr.toNat (bytesBE v) s).mem) (hlen : t.memLen = (memWrite addr.toNat (bytesBE v) s).memLen)
    (hcfg : t.cfg = s.cfg) (hst : t.stack = addr :: rest) (hd : t.stack.length ≤ 1024) :
    exec .mload t = .next (done (memExpand addr.toNat 32 t) 1 (v :: rest)) := by
  rw [exec_mload hst hd (by rwa [hcfg]), beWord_memBytes_of_store hs hr hmem hlen]

/-- An instruction that writes the `n` bytes `g 0, g 1, …` at `a`, pops its operands and completes. -/
theorem exec_stores {i : Instr} {s : State} {a n : Nat} {v : List Byte} {g : Nat → Byte} {rest : List Word} (hs : Inv s)
    (hr : n ≠ 0 → a + n ≤ s.cfg.memLimit) (hx : exec i s = .next (done (memWrite a v s) 1 rest)) (hlen : v.length = n)
    (hg : ∀ j, j < n → v.getD j 0 = g j) :
    ∃ t, exec i s = .next t ∧ t.stack = rest ∧ t.pc = s.pc + 1 ∧ t.run = .running ∧ t.memLen = grown s a n ∧
      (∀ j, j < n → t.byteAt (a + j) = g j) ∧ (∀ x, (x < a ∨ a + n ≤ x) → t.byteAt x = s.byteAt x) ∧ SameBuffers s t := by
  subst hlen
  refine ⟨_, hx, rfl, by simp, rfl, memExpand_memLen_eq_grown hs.granular a v.length, fun j hj => ?_,
    fun x => memWrite_byteAt_other hs hr, by simp [SameBuffers]⟩
  exact (memWrite_byteAt_written hs hr hj).trans (hg j hj)

/-! ### The statements -/

/-- Settles O22: a store of `bytes_be(v)`. -/
theorem mstoreStoresWordBigEndian : Obligations.MstoreStoresWordBigEndian := by
  intro s addr v rest hs hst hr
  exact exec_stores hs (fun _ => hr) (exec_mstore hst hs.stack hr) (bytesBE_length v) (bytesBE_getD v)

/-- Settles O23: a store of one byte, which is the value modulo 256. -/
theorem mstore8StoresLowByte : Obligations.Mstore8StoresLowByte := by
  intro s addr v rest hs hst hr
  obtain ⟨t, hx, hstack, hpc, hrun, hmemLen, hbyte, hkeep, hbuf⟩ :=
    exec_stores (n := 1) (g := fun _ => v.extractLsb' 0 8) hs (fun _ => hr) (exec_mstore8 hst hs.stack hr) rfl
      fun j hj => by rw [Nat.lt_one_iff.mp hj, List.getD_cons_zero]
  refine ⟨t, hx, hstack, hpc, hrun, hmemLen, ?_, fun a ha => hkeep a (by omega), hbuf⟩
  have h0 : t.byteAt addr.toNat = v.extractLsb' 0 8 := hbyte 0 Nat.one_pos
  rw [h0, BitVec.extractLsb'_toNat, Nat.shiftRight_zero]

/-- Settles O24: the bytes are those before the expansion, which changes none. -/
theorem mloadReadsWordBigEndian : Obligations.MloadReadsWordBigEndian := by
  intro s addr rest hs hst hr
  exact ⟨_, _, exec_mload hst hs.stack hr, rfl, by simp, rfl, memExpand_memLen_eq_grown hs.granular _ _,
    fun j hj => beWord_memBytes_byte hs.memInside _ hj, memExpand_byteAt hs _ _, by simp [SameBuffers]⟩

/-- Settles O25: the word loaded has the 32 bytes the store wrote. -/
theorem mloadAfterMstoreReturnsValue : Obligations.MloadAfterMstoreReturnsValue := by
  intro s addr v rest rest' hs hst hr hd
  obtain ⟨t, hx, hmem, hlen, hcfg⟩ : ∃ t, exec .mstore s = .next t ∧ t.mem = (memWrite addr.toNat (bytesBE v) s).mem ∧
      t.memLen = (memWrite addr.toNat (bytesBE v) s).memLen ∧ t.cfg = s.cfg :=
    ⟨_, exec_mstore hst hs.stack hr, done_mem .., done_memLen .., (done_cfg ..).trans (memWrite_cfg ..)⟩
  exact ⟨t, _, hx, exec_mload_after_store hs hr hmem hlen hcfg rfl hd, rfl⟩

/-- Settles O28: the word has the 32 bytes read from the input. -/
theorem calldataloadPadsWithZeros : Obligations.CalldataloadPadsWithZeros := by
  intro s off rest hst hd
  have hload : exec .calldataload s = _ := unary_done (f := fun off => beWord (inputRead s off.toNat 32)) hst hd
  refine ⟨_, hload, fun j hj => ?_⟩
  rw [inputRead, beWord_byte _ (bufferRead_length ..) j hj, bufferRead_getD_eq_ite _ _ hj]

/-- The two copies and the buffer each reads (44_memory_data.md R247, R249). -/
theorem exec_copyForm (s : State) :
    ∀ c ∈ [(Instr.calldatacopy, s.input), (Instr.codecopy, s.code)], exec c.1 s = copyToMemory (bufferRead c.2) s := by
  simp only [List.forall_mem_cons, List.not_mem_nil, false_implies, implies_true, and_true]
  exact ⟨rfl, rfl⟩

/-- Settles O29: a store of the bytes read from the buffer. -/
theorem copiesMoveBytesAndPad : Obligations.CopiesMoveBytesAndPad := by
  intro s dst src len rest hs hst hr c hc
  exact exec_stores hs hr ((exec_copyForm s c hc).trans (copyToMemory_done hst hs.stack hr)) (bufferRead_length ..)
    fun j hj => bufferRead_getD_eq_ite _ _ hj

/-- What an instruction that pushes a word of the state has to show: its meaning, and that it has no immediate. -/
theorem pushRule_of_exec {i : Instr} {f : State → Word} (hx : ∀ s, exec i s = pushWord 1 (f s) s) (hk : (encodingOf i).2.1 = 0) :
    PushRule i f := by
  refine ⟨fun m => by rw [encode_length, hk], fun s => ?_⟩
  rw [hx]
  exact ⟨pushWord_overflow, pushWord_done⟩

/-- Settles O27: each of the four pushes its word by the meaning `exec` gives it. -/
theorem sizesAndPositionArePushed : Obligations.SizesAndPositionArePushed :=
  ⟨pushRule_of_exec (fun _ => rfl) rfl, pushRule_of_exec (fun _ => rfl) rfl, pushRule_of_exec (fun _ => rfl) rfl,
    pushRule_of_exec (fun _ => rfl) rfl⟩

end Sys2Proof.Proofs.MemoryData
end

section
/-! PROOFS. The jump-target validator (45_control.md R262, decision D13, log 11): instruction boundaries as steps along the code, the sweep as the
JUMPDESTs among them. -/

namespace Sys2Proof.Proofs.JumpTargets
open Relation
open Sys2Proof.Machine Sys2Proof.Claims Sys2Proof.Proofs.Encoding

/-! ### Boundaries -/

/-- From a position inside the code, the position one instruction length on (30_encoding.md R81). -/
def NextBoundary (m : OpMap) (code : List Byte) (p q : Nat) : Prop := p < code.length ∧ p + instrLen m (code.getD p 0) = q

/-- The boundaries are the positions these steps lead to from position 0. -/
theorem boundary_iff_reflTransGen {m : OpMap} {code : List Byte} {p : Nat} : Boundary m code p ↔ ReflTransGen (NextBoundary m code) 0 p := by
  constructor
  · intro h
    induction h with
    | start => exact .refl
    | next p _ hp ih => exact ih.tail ⟨hp, rfl⟩
  · intro h
    induction h with
    | refl => exact .start
    | tail _ hstep ih =>
      obtain ⟨hp, rfl⟩ := hstep
      exact .next _ ih hp

theorem nextBoundary_rightUnique (m : OpMap) (code : List Byte) : Relator.RightUnique (NextBoundary m code) :=
  fun _ _ _ h h' => h.2.symm.trans h'.2

theorem le_of_reflTransGen {m : OpMap} {code : List Byte} {p q : Nat} (h : ReflTransGen (NextBoundary m code) p q) : p ≤ q := by
  induction h with
  | refl => exact Nat.le_refl p
  | tail _ hstep ih => exact ih.trans (hstep.2 ▸ Nat.le_add_right ..)

/-- What is reached from a position inside the code: the position itself, or what is reached from the next one. -/
theorem reflTransGen_iff_of_lt {m : OpMap} {code : List Byte} {p q : Nat} (hp : p < code.length) :
    ReflTransGen (NextBoundary m code) p q ↔ q = p ∨ ReflTransGen (NextBoundary m code) (p + instrLen m (code.getD p 0)) q := by
  rw [ReflTransGen.cases_head_iff, eq_comm]
  simp [NextBoundary, hp]

/-- No boundary lies strictly inside an instruction: of two boundaries one is reached from the other. -/
theorem boundary_le_or_add_instrLen_le {m : OpMap} {code : List Byte} {p q : Nat} (hq : Boundary m code q) (hlt : q < code.length)
    (hp : Boundary m code p) : p ≤ q ∨ q + instrLen m (code.getD q 0) ≤ p := by
  rw [boundary_iff_reflTransGen] at hp hq
  rcases ReflTransGen.total_of_right_unique (nextBoundary_rightUnique m code) hq hp with hqp | hpq
  · rcases (reflTransGen_iff_of_lt hlt).mp hqp with rfl | hreach
    · exact .inl (Nat.le_refl p)
    · exact .inr (le_of_reflTransGen hreach)
  · exact .inl (le_of_reflTransGen hpq)

/-! ### The sweep -/

/-- A list left after dropping that begins with `b` has `b` at the position dropped to. -/
theorem getD_of_drop_eq_cons {code bs : List Byte} {b : Byte} {pos : Nat} (h : code.drop pos = b :: bs) :
    pos < code.length ∧ code.getD pos 0 = b ∧ code.drop (pos + 1) = bs := by
  have hlt : pos < code.length := by
    by_contra hge
    rw [List.drop_eq_nil_of_le (Nat.not_lt.mp hge)] at h
    cases h
  rw [List.drop_eq_getElem_cons hlt, List.cons.injEq] at h
  obtain ⟨hb, hbs⟩ := h
  exact ⟨hlt, (List.getD_eq_getElem _ _ hlt).trans hb, hbs⟩

theorem instrLen_jumpdestOpcode (m : OpMap) : instrLen m (jumpdestOpcode m) = 1 := by
  rw [instrLen, jumpdestOpcode, immLen_encodingOf]
  rfl

/-- The sweep from `pos`, with `skip` bytes to be skipped first, gives the JUMPDESTs among the boundaries reached from `pos + skip`. -/
theorem mem_sweep_iff {m : OpMap} {code bs : List Byte} {pos skip p : Nat} (h : code.drop pos = bs) :
    p ∈ sweep m bs pos skip ↔
      ReflTransGen (NextBoundary m code) (pos + skip) p ∧ p < code.length ∧ code.getD p 0 = jumpdestOpcode m := by
  induction bs generalizing pos skip with
  | nil =>
    have hend : code.length ≤ pos := List.drop_eq_nil_iff.mp h
    rw [sweep]
    constructor
    · intro hmem
      cases hmem
    · rintro ⟨hreach, hlt, -⟩
      have hle := le_of_reflTransGen hreach
      omega
  | cons b bs ih =>
    obtain ⟨hlt, hb, hbs⟩ := getD_of_drop_eq_cons h
    cases skip with
    | succ skip => rw [sweep, ih hbs, Nat.add_right_comm, Nat.add_assoc]
    | zero =>
      rw [Nat.add_zero, reflTransGen_iff_of_lt hlt, hb, sweep]
      by_cases hjump : b = jumpdestOpcode m
      · rw [if_pos hjump, List.mem_cons, ih hbs, Nat.add_zero, hjump, instrLen_jumpdestOpcode, or_and_right]
        have hhere : p = pos → p < code.length ∧ code.getD p 0 = jumpdestOpcode m := by
          rintro rfl
          exact ⟨hlt, hb.trans hjump⟩
        rw [and_iff_left_of_imp hhere]
      · rw [if_neg hjump, ih hbs, instrLen, Nat.add_right_comm, Nat.add_assoc, or_and_right]
        have hnot : ¬ (p = pos ∧ p < code.length ∧ code.getD p 0 = jumpdestOpcode m) := by
          rintro ⟨rfl, -, hat⟩
          exact hjump (hb.symm.trans hat)
        rw [or_iff_right hnot]

/-- Settles O36: the sweep from position 0 with nothing to skip. -/
theorem validTargetsAreJumpdestsAtBoundaries : Obligations.ValidTargetsAreJumpdestsAtBoundaries := by
  intro m code p
  rw [validJumpdests, mem_sweep_iff List.drop_zero, boundary_iff_reflTransGen]
  rfl

/-! ### Valid targets -/

theorem boundary_of_isValidJump {m : OpMap} {code : List Byte} {t : Word} (h : isValidJump m code t = true) : Boundary m code t.toNat := by
  rw [isValidJump, Bool.and_eq_true, List.contains_iff_mem] at h
  obtain ⟨-, hmem⟩ := h
  exact ((validTargetsAreJumpdestsAtBoundaries ..).mp hmem).1

/-- Settles O37: a valid target is a boundary, and none lies between `q` and the next one. -/
theorem immediateBytesAreNeverTargets : Obligations.ImmediateBytesAreNeverTargets := by
  intro m code q j t hq hlt hj hk ht
  by_contra hvalid
  have hb := boundary_of_isValidJump (Bool.not_eq_false _ ▸ hvalid)
  rcases boundary_le_or_add_instrLen_le hq hlt hb with hle | hge
  · omega
  · rw [instrLen] at hge
    omega

end Sys2Proof.Proofs.JumpTargets
end

section
/-! PROOFS. The control-transfer and terminating instructions (45_control.md R260): what they answer when the stack checks pass, and which of all
instructions can raise the designated-invalid error. -/

namespace Sys2Proof.Proofs.Control
open Sys2Proof.Machine Sys2Proof.Claims Sys2Proof.Proofs.Exec Sys2Proof.Proofs.Expansion Sys2Proof.Proofs.Stack Sys2Proof.Proofs.Arithmetic
  Sys2Proof.Proofs.MemoryData

/-! ### Jumps -/

theorem jumpTo_valid {t : Word} {s : State} (h : isValidJump s.cfg.opmap s.code t = true) (p : Nat) :
    jumpTo t p s = .next { s with stack := s.stack.drop p, pc := t.toNat, run := .running } := by
  rw [jumpTo, if_pos h]
  rfl

theorem jumpTo_invalid {t : Word} {s : State} (h : isValidJump s.cfg.opmap s.code t = false) (p : Nat) :
    jumpTo t p s = .next (failed s .invalidJump) := by
  rw [jumpTo, h, if_neg Bool.false_ne_true, raise_eq_failed]

theorem exec_jump_underflow {s : State} (h : s.stack.length < 1) : exec .jump s = .next (failed s .stackUnderflow) := by
  show execJump s = _
  rw [execJump, checked_underflow h, raise_eq_failed]

theorem exec_jump {s : State} {t : Word} {rest : List Word} (hst : s.stack = t :: rest) (hd : s.stack.length ≤ 1024) :
    exec .jump s = jumpTo t 1 s := by
  show execJump s = _
  rw [execJump, checked_pass (by simp [hst]) (by omega), x_zero_cons s _ _ hst]

theorem exec_jumpi_underflow {s : State} (h : s.stack.length < 2) : exec .jumpi s = .next (failed s .stackUnderflow) := by
  show execJumpi s = _
  rw [execJumpi, checked_underflow h, raise_eq_failed]

theorem exec_jumpi {s : State} {t c : Word} {rest : List Word} (hst : s.stack = t :: c :: rest) (hd : s.stack.length ≤ 1024) :
    exec .jumpi s = if Machine.isTrue c then jumpTo t 2 s else .next (done s 1 rest) := by
  show execJumpi s = _
  rw [execJumpi, checked_pass (by simp [hst]) (by omega), x_zero_cons s _ _ hst, x_one_cons hst, finish_replaceTop, hst]
  rfl

theorem isTrue_iff {w : Word} : Machine.isTrue w = true ↔ w.toNat ≠ 0 := by
  rw [Machine.isTrue, bne_iff_ne, ne_eq, eq_zero_iff_toNat]

/-- Settles O30. -/
theorem jumpGoesToValidTargetOnly : Obligations.JumpGoesToValidTargetOnly := by
  refine fun s => ⟨fun hempty => exec_jump_underflow (by simp [hempty]), fun t rest hst hd => ?_⟩
  rw [exec_jump hst hd]
  exact ⟨fun hv => by rw [jumpTo_valid hv, hst]; rfl, fun hv => jumpTo_invalid hv 1⟩

/-- Settles O31: by the condition, then by the target. -/
theorem jumpiJumpsOnNonzeroCondition : Obligations.JumpiJumpsOnNonzeroCondition := by
  refine fun s => ⟨exec_jumpi_underflow, fun t c rest hst hd => ?_⟩
  rw [exec_jumpi hst hd]
  refine ⟨fun hc => ?goesOn, fun hc hv => ?jumps, fun hc hv => ?fails⟩
  case goesOn => exact if_neg fun htrue => isTrue_iff.mp htrue hc
  case jumps => rw [if_pos (isTrue_iff.mpr hc), jumpTo_valid hv, hst]; rfl
  case fails => rw [if_pos (isTrue_iff.mpr hc), jumpTo_invalid hv]

/-- Settles O32: no check, by the meaning `exec` gives it. -/
theorem jumpdestOnlyAdvances : Obligations.JumpdestOnlyAdvances := ⟨fun m => encode_length m .jumpdest, fun _ => rfl⟩

/-! ### RETURN and REVERT -/

/-- Both checks pass: the operands are popped, memory is expanded, and the payload is what it then holds. -/
theorem exitWithBytes_done {reason : List Byte → Reason} {s : State} {addr len : Word} {rest : List Word}
    (hst : s.stack = addr :: len :: rest) (hd : s.stack.length ≤ 1024) (hr : len.toNat ≠ 0 → addr.toNat + len.toNat ≤ s.cfg.memLimit) :
    exitWithBytes reason s = .next (apply (.exit (reason (memBytes addr.toNat len.toNat s)))
      (replaceTop 2 [] (memExpand addr.toNat len.toNat s))) := by
  rw [exitWithBytes, x_zero_cons s _ _ hst, x_one_cons hst, checked_pass (by simp [hst]) (by omega), ranged_pass hr, finish_eq]

/-- In a good state the bytes read are those before the expansion (20_memory.md R56, R58). -/
theorem memBytes_getD {s : State} (hs : Inv s) (a : Nat) {n j : Nat} (hj : j < n) : (memBytes a n s).getD j 0 = s.byteAt (a + j) := by
  rw [memBytes, Memory.readBytes_getD _ _ _ _ hj]
  exact memExpand_byteAt hs a n (a + j)

/-- Settles O34: the payload is the bytes read, and the rest is what expansion does. -/
theorem returnAndRevertExitWithMemory : Obligations.ReturnAndRevertExitWithMemory := by
  intro s addr len rest hs hst hr
  exact ⟨memBytes addr.toNat len.toNat s, _, _,
    exitWithBytes_done (reason := fun payload => .succeed (.returned payload)) hst hs.stack hr,
    exitWithBytes_done (reason := .revert) hst hs.stack hr,
    Memory.readBytes_length .., fun _ => memBytes_getD hs _, rfl, rfl, by simp [hst], memExpand_pc ..,
    memExpand_memLen_eq_grown hs.granular _ _, memExpand_byteAt hs _ _, memExpand_sameBuffers ..⟩

/-! ### The designated-invalid error -/

/-- The result is a frame that ends in the designated-invalid error (60_exceptions.md R285). -/
def EndsInvalid (r : Result) : Prop := ∃ t, r = .next t ∧ t.run = .exited (.error .designatedInvalid)

theorem not_endsInvalid_finish {c : Control} (hc : c ≠ .exit (.error .designatedInvalid)) (s : State) : ¬ EndsInvalid (finish c s) := by
  rintro ⟨t, ht, he⟩
  cases ht
  cases c <;> cases he
  exact hc rfl

theorem not_endsInvalid_advance (n : Nat) (s : State) : ¬ EndsInvalid (finish (.advance n) s) := not_endsInvalid_finish (by nofun) s

theorem not_endsInvalid_raise {e : ErrorReason} (he : e ≠ .designatedInvalid) (s : State) : ¬ EndsInvalid (raise e s) :=
  not_endsInvalid_finish (by simpa using he) s

/-- A stack check raises underflow or overflow of its own. -/
theorem not_endsInvalid_checked {need p q : Nat} {s : State} {k : Unit → Result} (hk : ¬ EndsInvalid (k ())) :
    ¬ EndsInvalid (checked need p q s k) := by
  rcases checked_cases need p q s k with ⟨-, hx⟩ | ⟨-, -, hx⟩ | ⟨-, -, hx⟩ <;> rw [hx]
  exacts [not_endsInvalid_raise (by nofun) s, not_endsInvalid_raise (by nofun) s, hk]

/-- The range test raises OVERSIZE_ERROR of its own, which R284 leaves two values. -/
theorem not_endsInvalid_ranged {addr n : Nat} {s : State} {k : Unit → Result} (hk : ¬ EndsInvalid (k ())) :
    ¬ EndsInvalid (ranged addr n s k) := by
  rcases ranged_cases addr n s k with ⟨-, -, hx⟩ | ⟨-, hx⟩ <;> rw [hx]
  · rcases oversize_eq s.cfg with ho | ho <;> rw [ho] <;> exact not_endsInvalid_raise (by nofun) s
  · exact hk

theorem not_endsInvalid_jumpTo (w : Word) (p : Nat) (s : State) : ¬ EndsInvalid (jumpTo w p s) := by
  unfold jumpTo
  split
  exacts [not_endsInvalid_finish (by nofun) _, not_endsInvalid_raise (by nofun) s]

/-- RETURN and REVERT, whose reasons are no errors. -/
theorem not_endsInvalid_exitWithBytes {reason : List Byte → Reason} (hr : ∀ payload, reason payload ≠ .error .designatedInvalid)
    (s : State) : ¬ EndsInvalid (exitWithBytes reason s) :=
  not_endsInvalid_checked (not_endsInvalid_ranged (not_endsInvalid_finish (by simpa using hr _) _))

/-- Every instruction but INVALID, by its shape: its checks and what they guard. -/
theorem not_endsInvalid_exec {i : Instr} (hi : i ≠ .invalid) (s : State) : ¬ EndsInvalid (exec i s) := by
  cases exec_shape i s with
  | unary _ hx | binary _ hx | ternary _ hx | push _ _ hx | dup _ hx | swap _ hx =>
    rw [hx]; exact not_endsInvalid_checked (not_endsInvalid_advance _ _)
  | copy _ hx => rw [hx]; exact not_endsInvalid_checked (not_endsInvalid_ranged (not_endsInvalid_advance _ _))
  | exitBytes _ _ hform =>
    rcases hform with rfl | rfl
    exacts [not_endsInvalid_exitWithBytes (reason := fun payload => .succeed (.returned payload)) (by nofun) s,
      not_endsInvalid_exitWithBytes (reason := .revert) (by nofun) s]
  | trap _ hx => rw [hx]; exact not_endsInvalid_finish (by nofun) s
  | pop hi => subst hi; show ¬ EndsInvalid (execPop s); exact not_endsInvalid_checked (not_endsInvalid_advance _ _)
  | mload hi =>
    subst hi; show ¬ EndsInvalid (execMload s); exact not_endsInvalid_checked (not_endsInvalid_ranged (not_endsInvalid_advance _ _))
  | mstore hi =>
    subst hi; show ¬ EndsInvalid (execMstore s); exact not_endsInvalid_checked (not_endsInvalid_ranged (not_endsInvalid_advance _ _))
  | mstore8 hi =>
    subst hi; show ¬ EndsInvalid (execMstore8 s); exact not_endsInvalid_checked (not_endsInvalid_ranged (not_endsInvalid_advance _ _))
  | jump hi => subst hi; show ¬ EndsInvalid (execJump s); exact not_endsInvalid_checked (not_endsInvalid_jumpTo _ _ _)
  | jumpi hi =>
    subst hi
    show ¬ EndsInvalid (execJumpi s)
    apply not_endsInvalid_checked
    split
    exacts [not_endsInvalid_jumpTo _ _ _, not_endsInvalid_advance _ _]
  | jumpdest hi | stop hi => subst hi; exact not_endsInvalid_finish (by nofun) s
  | invalid hinv => exact absurd hinv hi

/-- Settles O33: STOP and INVALID by their meaning, the other instructions by the lemma above. -/
theorem stopAndInvalidEndTheFrame : Obligations.StopAndInvalidEndTheFrame := by
  refine ⟨fun m => ⟨encode_length m .stop, encode_length m .invalid⟩, fun s => ⟨rfl, rfl⟩, fun i s t h ht => ?_⟩
  by_contra hi
  exact not_endsInvalid_exec hi s ⟨t, h, ht⟩

end Sys2Proof.Proofs.Control
end

section
/-! PROOFS. The exceptions (60_exceptions.md R280 to R293): the run state in which an instruction can end, by the common stack checks and by what they
guard, the access beyond MEM_LIMIT, and the host's answer to a trap. -/

namespace Sys2Proof.Proofs.Exceptions
open Sys2Proof.Machine Sys2Proof.Claims Sys2Proof.Proofs.Exec Sys2Proof.Proofs.Expansion Sys2Proof.Proofs.Stack Sys2Proof.Proofs.MemoryData
  Sys2Proof.Proofs.Control Sys2Proof.Proofs.Outcome

/-! ### How an instruction can end -/

/-- The run states in which instruction `i` can end in `s` once the common stack checks have passed (40_dispatch.md R104 to R106). -/
inductive Handled (i : Instr) (s : State) : Run → Prop where
  | running : Handled i s .running
  | trapped (op : Byte) : Handled i s (.trapped op)
  | stopped : Handled i s (.exited (.succeed .stopped))
  | returned (payload : List Byte) : Handled i s (.exited (.succeed (.returned payload)))
  | reverted (payload : List Byte) : Handled i s (.exited (.revert payload))
  | designatedInvalid : Handled i s (.exited (.error .designatedInvalid))
  | invalidRange (ho : s.cfg.oversizeError = .invalidRange) : Handled i s (.exited (.error .invalidRange))
  | other (ho : s.cfg.oversizeError = .other) : Handled i s (.exited (.error (.other ())))
  | invalidJump (hi : i = .jump ∨ i = .jumpi ∧ (s.x 1).toNat ≠ 0) (hv : isValidJump s.cfg.opmap s.code (s.x 0) = false) :
      Handled i s (.exited (.error .invalidJump))

/-- The run states in which instruction `i` can end in `s`, by the common stack checks (40_dispatch.md R103) with the counts of 30_encoding.md R86.
Nothing is said of an overflow on a stack that is too deep already, for which some instructions make no check. -/
inductive Dispatched (i : Instr) (s : State) : Run → Prop where
  | underflow (hn : s.stack.length < (stackUse i).1) : Dispatched i s (.exited (.error .stackUnderflow))
  | overflow (hn : (stackUse i).1 ≤ s.stack.length) (ho : 1024 < s.stack.length - (stackUse i).2.1 + (stackUse i).2.2) :
      Dispatched i s (.exited (.error .stackOverflow))
  | handled {r : Run} (hn : (stackUse i).1 ≤ s.stack.length)
      (ho : s.stack.length ≤ 1024 → s.stack.length - (stackUse i).2.1 + (stackUse i).2.2 ≤ 1024) (hr : Handled i s r) : Dispatched i s r

/-- An instruction that uses no word of the stack passes the checks, whether it makes them or not. -/
theorem Dispatched.of_uses_none {i : Instr} {s : State} {r : Run} (hu : stackUse i = (0, 0, 0)) (hr : Handled i s r) : Dispatched i s r :=
  .handled (by simp [hu]) (by simp [hu]) hr

theorem dispatched_of_checked {i : Instr} {s t : State} {need p q : Nat} {k : Unit → Result} (hu : stackUse i = (need, p, q))
    (hk : k () = .next t → Handled i s t.run) (h : checked need p q s k = .next t) : Dispatched i s t.run := by
  rcases checked_cases need p q s k with ⟨hn, hx⟩ | ⟨hn, ho, hx⟩ | ⟨hn, ho, hx⟩ <;> rw [hx] at h
  · cases h; exact .underflow (by rwa [hu])
  · cases h; exact .overflow (by rwa [hu]) (by rwa [hu])
  · exact .handled (by rwa [hu]) (fun _ => by rwa [hu]) (hk h)

theorem handled_of_advance {i : Instr} {s u t : State} {n : Nat} (h : finish (.advance n) u = .next t) : Handled i s t.run := by
  cases h; exact .running

/-- The error of an over-limit access, by the value of OVERSIZE_ERROR (60_exceptions.md R284, R286). -/
theorem handled_oversize (i : Instr) (s : State) : Handled i s (.exited (.error (oversize s.cfg))) := by
  unfold oversize
  split
  next ho => exact .invalidRange ho
  next ho => exact .other ho

theorem handled_of_ranged {i : Instr} {s t : State} {addr n : Nat} {k : Unit → Result} (hk : k () = .next t → Handled i s t.run)
    (h : ranged addr n s k = .next t) : Handled i s t.run := by
  rcases ranged_cases addr n s k with ⟨-, -, hx⟩ | ⟨-, hx⟩ <;> rw [hx] at h
  · cases h; exact handled_oversize i s
  · exact hk h

theorem handled_of_jumpTo {i : Instr} {s t : State} {p : Nat} (hi : i = .jump ∨ i = .jumpi ∧ (s.x 1).toNat ≠ 0)
    (h : jumpTo (s.x 0) p s = .next t) : Handled i s t.run := by
  rcases jumpTo_next h with ⟨rfl, hv⟩ | ⟨rfl, -⟩
  exacts [.invalidJump hi hv, .running]

theorem dispatched_of_exitWithBytes {i : Instr} {s t : State} {reason : List Byte → Reason} (hu : stackUse i = (2, 2, 0))
    (hr : ∀ payload, Handled i s (.exited (reason payload))) (h : exitWithBytes reason s = .next t) : Dispatched i s t.run :=
  dispatched_of_checked hu (handled_of_ranged fun h => by cases h; exact hr _) h

/-- Every instruction, by its shape: the counts it checks, then what its checks guard. -/
theorem exec_dispatched {i : Instr} {s t : State} (h : exec i s = .next t) : Dispatched i s t.run := by
  cases exec_shape i s with
  | unary _ hx _ hu | binary _ hx _ hu | ternary _ hx _ hu | push _ _ hx _ hu | dup _ hx _ hu | swap _ hx _ hu =>
    exact dispatched_of_checked hu handled_of_advance (hx ▸ h)
  | copy _ hx hform =>
    have hu : stackUse i = (3, 3, 0) := by rcases hform with rfl | rfl <;> rfl
    exact dispatched_of_checked hu (handled_of_ranged handled_of_advance) (hx ▸ h)
  | exitBytes _ _ hform =>
    rcases hform with rfl | rfl
    exacts [dispatched_of_exitWithBytes rfl .returned h, dispatched_of_exitWithBytes rfl .reverted h]
  | trap _ hx hu => rw [hx] at h; cases h; exact .of_uses_none hu (.trapped _)
  | pop hi => subst hi; change execPop s = _ at h; exact dispatched_of_checked rfl handled_of_advance h
  | mload hi => subst hi; change execMload s = _ at h; exact dispatched_of_checked rfl (handled_of_ranged handled_of_advance) h
  | mstore hi => subst hi; change execMstore s = _ at h; exact dispatched_of_checked rfl (handled_of_ranged handled_of_advance) h
  | mstore8 hi => subst hi; change execMstore8 s = _ at h; exact dispatched_of_checked rfl (handled_of_ranged handled_of_advance) h
  | jump hi => subst hi; change execJump s = _ at h; exact dispatched_of_checked rfl (handled_of_jumpTo (.inl rfl)) h
  | jumpi hi =>
    subst hi
    change execJumpi s = _ at h
    refine dispatched_of_checked rfl (fun h => ?_) h
    split at h
    next htrue => exact handled_of_jumpTo (.inr ⟨rfl, isTrue_iff.mp htrue⟩) h
    next => exact handled_of_advance h
  | jumpdest hi => subst hi; cases h; exact .of_uses_none rfl .running
  | stop hi => subst hi; cases h; exact .of_uses_none rfl .stopped
  | invalid hi => subst hi; cases h; exact .of_uses_none rfl .designatedInvalid

/-! ### Underflow -/

theorem Dispatched.stackUnderflow_iff {i : Instr} {s : State} {r : Run} (h : Dispatched i s r) :
    r = .exited (.error .stackUnderflow) ↔ s.stack.length < (stackUse i).1 := by
  cases h with
  | underflow hn => exact iff_of_true rfl hn
  | overflow hn _ => exact iff_of_false nofun hn.not_gt
  | handled hn _ hr => exact iff_of_false (by rintro rfl; cases hr) hn.not_gt

/-- Settles O50. -/
theorem underflowExactlyBelowNeed : Obligations.UnderflowExactlyBelowNeed := fun _ _ _ h => (exec_dispatched h).stackUnderflow_iff

/-! ### Overflow -/

theorem stackUse_dupForm : ∀ f ∈ dupForms, stackUse f.2 = (f.1, 0, 1) := by decide

theorem stackUse_pushForm : ∀ f ∈ pushForms, ∀ imm, stackUse (f.2 imm) = (0, 0, 1) := by
  simp only [pushForms, pushForms1, pushForms2, List.forall_mem_append, List.forall_mem_cons, List.not_mem_nil, false_implies, implies_true,
    and_true]
  and_intros <;> exact fun _ => rfl

/-- The instructions that can overflow, in the words of 60_exceptions.md R282. -/
def CanOverflow (i : Instr) : Prop :=
  i ∈ [Instr.pc, .msize, .calldatasize, .codesize] ∨ (∃ f ∈ dupForms, i = f.2) ∨ ∃ f ∈ pushForms, ∃ imm, i = f.2 imm

/-- Each pops nothing and pushes one word, and needs at most the 16 words of DUP16. -/
theorem CanOverflow.stackUse_eq {i : Instr} (h : CanOverflow i) : ∃ n ≤ 16, stackUse i = (n, 0, 1) := by
  rcases h with hi | ⟨f, hf, rfl⟩ | ⟨f, hf, imm, rfl⟩
  · exact ⟨0, Nat.zero_le _, (by decide : ∀ j ∈ [Instr.pc, .msize, .calldatasize, .codesize], stackUse j = (0, 0, 1)) i hi⟩
  · exact ⟨f.1, dupForm_le f hf, stackUse_dupForm f hf⟩
  · exact ⟨0, Nat.zero_le _, stackUse_pushForm f hf imm⟩

/-- PUSH-k is the form of its number of immediate bytes. -/
theorem exists_pushForm {i : Instr} (h : (pushForms[(encodingOf i).2.1 - 1]?.map fun f => f.2 (encodingOf i).2.2) = some i) :
    ∃ f ∈ pushForms, ∃ imm, i = f.2 imm := by
  obtain ⟨f, hf, hi⟩ := Option.map_eq_some_iff.mp h
  exact ⟨f, List.mem_of_getElem? hf, _, hi.symm⟩

theorem canOverflow_of_pops_lt_pushes {i : Instr} (h : (stackUse i).2.1 < (stackUse i).2.2) : CanOverflow i := by
  cases i
  case pc | msize | calldatasize | codesize => exact .inl (by decide)
  case dup1 | dup2 | dup3 | dup4 | dup5 | dup6 | dup7 | dup8 | dup9 | dup10 | dup11 | dup12 | dup13 | dup14 | dup15 | dup16 =>
    exact .inr (.inl (by decide))
  case push1 | push2 | push3 | push4 | push5 | push6 | push7 | push8 | push9 | push10 | push11 | push12 | push13 | push14 | push15 | push16
      | push17 | push18 | push19 | push20 | push21 | push22 | push23 | push24 | push25 | push26 | push27 | push28 | push29 | push30
      | push31 | push32 =>
    exact .inr (.inr (exists_pushForm rfl))
  all_goals exact absurd h (by decide)

theorem canOverflow_iff_pops_lt_pushes (i : Instr) : (stackUse i).2.1 < (stackUse i).2.2 ↔ CanOverflow i := by
  refine ⟨canOverflow_of_pops_lt_pushes, fun h => ?_⟩
  obtain ⟨n, -, hu⟩ := h.stackUse_eq
  simp [hu]

/-- An instruction pops only words it needs. -/
theorem pops_le_need (i : Instr) : (stackUse i).2.1 ≤ (stackUse i).1 := by
  cases exec_shape i State.reset with
  | unary _ _ _ hu | binary _ _ _ hu | ternary _ _ _ hu | push _ _ _ _ hu | dup _ _ _ hu | swap _ _ _ hu | trap _ _ hu => simp [hu]
  | copy _ _ hi _ | exitBytes _ _ hi => rcases hi with rfl | rfl <;> decide
  | pop hi | mload hi | mstore hi | mstore8 hi | jump hi | jumpi hi | jumpdest hi | stop hi | invalid hi => subst hi; decide

/-- Within the depth invariant, the check of 40_dispatch.md R103 fails exactly at depth 1024 and for an instruction that pushes more than it pops. -/
theorem overflows_iff {i : Instr} {n : Nat} (hd : n ≤ 1024) (hn : (stackUse i).1 ≤ n) :
    1024 < n - (stackUse i).2.1 + (stackUse i).2.2 ↔ n = 1024 ∧ (stackUse i).2.1 < (stackUse i).2.2 := by
  by_cases hlt : (stackUse i).2.1 < (stackUse i).2.2
  · obtain ⟨m, -, hu⟩ := (canOverflow_of_pops_lt_pushes hlt).stackUse_eq
    simp only [hu]
    omega
  · have hpop := pops_le_need i
    omega

theorem Dispatched.stackOverflow_iff {i : Instr} {s : State} {r : Run} (h : Dispatched i s r) (hd : s.stack.length ≤ 1024) :
    r = .exited (.error .stackOverflow) ↔ s.stack.length = 1024 ∧ (stackUse i).2.1 < (stackUse i).2.2 := by
  cases h with
  | underflow hn =>
    refine iff_of_false nofun fun ⟨hfull, hlt⟩ => ?_
    obtain ⟨n, hn16, hu⟩ := (canOverflow_of_pops_lt_pushes hlt).stackUse_eq
    simp only [hu] at hn
    omega
  | overflow hn ho => exact iff_of_true rfl ((overflows_iff hd hn).mp ho)
  | handled hn ho hr => exact iff_of_false (by rintro rfl; cases hr) fun hfull => (ho hd).not_gt ((overflows_iff hd hn).mpr hfull)

/-- Settles O51: the error by the stack checks, the list by the counts. -/
theorem overflowExactlyAtFullStack : Obligations.OverflowExactlyAtFullStack :=
  fun i _ _ hd h => ⟨(exec_dispatched h).stackOverflow_iff hd, canOverflow_iff_pops_lt_pushes i⟩

/-! ### Invalid jumps -/

/-- In a run that ends in InvalidJump the stack checks have passed, so the operands are there. -/
theorem Dispatched.invalidJump {i : Instr} {s : State} (h : Dispatched i s (.exited (.error .invalidJump))) :
    ((i = .jump ∧ 1 ≤ s.stack.length) ∨ (i = .jumpi ∧ 2 ≤ s.stack.length ∧ (s.x 1).toNat ≠ 0)) ∧
      isValidJump s.cfg.opmap s.code (s.x 0) = false := by
  cases h with
  | handled hn _ hr =>
    cases hr with
    | invalidJump hi hv =>
      rcases hi with rfl | ⟨rfl, hc⟩
      exacts [⟨.inl ⟨rfl, hn⟩, hv⟩, ⟨.inr ⟨rfl, hn, hc⟩, hv⟩]

theorem exec_jump_invalid {s : State} (hd : s.stack.length ≤ 1024) (hn : 1 ≤ s.stack.length)
    (hv : isValidJump s.cfg.opmap s.code (s.x 0) = false) : exec .jump s = .next (failed s .invalidJump) := by
  obtain ⟨t, rest, hst⟩ := List.exists_cons_of_length_pos hn
  rw [x_zero_cons s t rest hst] at hv
  rw [exec_jump hst hd, jumpTo_invalid hv]

theorem exec_jumpi_invalid {s : State} (hd : s.stack.length ≤ 1024) (hn : 2 ≤ s.stack.length) (hc : (s.x 1).toNat ≠ 0)
    (hv : isValidJump s.cfg.opmap s.code (s.x 0) = false) : exec .jumpi s = .next (failed s .invalidJump) := by
  match hst : s.stack, hn with
  | t :: c :: rest, _ =>
    rw [x_zero_cons s _ _ hst] at hv
    rw [x_one_cons hst] at hc
    rw [exec_jumpi hst hd, if_pos (isTrue_iff.mpr hc), jumpTo_invalid hv]

/-- Settles O53: the two instructions that jump fail on such a target, nothing else gives this error, and an error keeps the stack. -/
theorem invalidJumpExactlyOnBadTarget : Obligations.InvalidJumpExactlyOnBadTarget := by
  intro i s t hd h
  refine ⟨⟨fun ht => ?raised, ?raises⟩, fun ht => ?kept⟩
  case raised => exact (ht ▸ exec_dispatched h).invalidJump
  case raises =>
    rintro ⟨⟨rfl, hn⟩ | ⟨rfl, hn, hc⟩, hv⟩
    · rw [exec_jump_invalid hd hn hv] at h; cases h; rfl
    · rw [exec_jumpi_invalid hd hn hc hv] at h; cases h; rfl
  case kept => rw [errorExitsChangeNothing i s t _ h ht, failed]

/-! ### The reasons that are never produced -/

/-- PCUnderflow and SelfDestructed are no end of an instruction (60_exceptions.md R287, R288), and an over-limit access gives the error
OVERSIZE_ERROR names (R284, R286). -/
theorem Dispatched.reasons {i : Instr} {s : State} {r : Run} (h : Dispatched i s r) :
    r ≠ .exited (.error .pcUnderflow) ∧ r ≠ .exited (.succeed .selfDestructed) ∧
      (r = .exited (.error (.other ())) → s.cfg.oversizeError = .other) ∧
      (r = .exited (.error .invalidRange) → s.cfg.oversizeError = .invalidRange) := by
  cases h with
  | underflow _ | overflow _ _ => exact ⟨nofun, nofun, nofun, nofun⟩
  | handled _ _ hr =>
    refine ⟨?_, ?_, ?_, ?_⟩ <;> rintro rfl
    · cases hr
    · cases hr
    · cases hr with | other ho => exact ho
    · cases hr with | invalidRange ho => exact ho

/-- Settles O55: a Running step is an instruction. -/
theorem neverProducedReasonsAreUnreachable : Obligations.NeverProducedReasonsAreUnreachable := by
  intro s t hrun h
  rw [step_running hrun] at h
  exact (exec_dispatched h).reasons

/-! ### Accesses beyond MEM_LIMIT -/

/-- An instruction whose operands are there and that pushes no more than it pops passes the stack checks, and its range test fails
(40_dispatch.md R103, R104). -/
theorem checked_ranged_over {s : State} {a n q : Nat} {ops rest : List Word} {k : Unit → Result} (hst : s.stack = ops ++ rest)
    (hd : s.stack.length ≤ 1024) (hle : q ≤ ops.length) (h0 : n ≠ 0) (hr : s.cfg.memLimit < a + n) :
    (checked ops.length ops.length q s fun _ => ranged a n s k) = .next (failed s (overLimit s)) := by
  have hops : ops.length ≤ s.stack.length := by simp [hst]
  rw [checked_pass hops (by omega), ranged_fail h0 hr, raise_eq_failed, oversize_eq_overLimit]

theorem exec_mload_over {s : State} {a : Word} {rest : List Word} (hst : s.stack = a :: rest) (hd : s.stack.length ≤ 1024)
    (hr : s.cfg.memLimit < a.toNat + 32) : exec .mload s = .next (failed s (overLimit s)) := by
  show execMload s = _
  rw [execMload, x_zero_cons s _ _ hst]
  exact checked_ranged_over (ops := [a]) hst hd (Nat.le_refl _) (by decide) hr

theorem exec_mstore_over {s : State} {a b : Word} {rest : List Word} (hst : s.stack = a :: b :: rest) (hd : s.stack.length ≤ 1024)
    (hr : s.cfg.memLimit < a.toNat + 32) : exec .mstore s = .next (failed s (overLimit s)) := by
  show execMstore s = _
  rw [execMstore, x_zero_cons s _ _ hst]
  exact checked_ranged_over (ops := [a, b]) hst hd (Nat.zero_le _) (by decide) hr

theorem exec_mstore8_over {s : State} {a b : Word} {rest : List Word} (hst : s.stack = a :: b :: rest) (hd : s.stack.length ≤ 1024)
    (hr : s.cfg.memLimit < a.toNat + 1) : exec .mstore8 s = .next (failed s (overLimit s)) := by
  show execMstore8 s = _
  rw [execMstore8, x_zero_cons s _ _ hst]
  exact checked_ranged_over (ops := [a, b]) hst hd (Nat.zero_le _) (by decide) hr

theorem exitWithBytes_over {reason : List Byte → Reason} {s : State} {a b : Word} {rest : List Word} (hst : s.stack = a :: b :: rest)
    (hd : s.stack.length ≤ 1024) (h0 : b.toNat ≠ 0) (hr : s.cfg.memLimit < a.toNat + b.toNat) :
    exitWithBytes reason s = .next (failed s (overLimit s)) := by
  rw [exitWithBytes, x_zero_cons s _ _ hst, x_one_cons hst]
  exact checked_ranged_over (ops := [a, b]) hst hd (Nat.zero_le _) h0 hr

theorem copyToMemory_over {read : Nat → Nat → List Byte} {s : State} {a b c : Word} {rest : List Word}
    (hst : s.stack = a :: b :: c :: rest) (hd : s.stack.length ≤ 1024) (h0 : c.toNat ≠ 0) (hr : s.cfg.memLimit < a.toNat + c.toNat) :
    copyToMemory read s = .next (failed s (overLimit s)) := by
  rw [copyToMemory, x_zero_cons s _ _ hst, x_two_cons hst]
  exact checked_ranged_over (ops := [a, b, c]) hst hd (Nat.zero_le _) h0 hr

/-- Settles O26: instruction by instruction, RETURN and REVERT by one lemma and the two copies by another. -/
theorem overLimitAccessExitsWithRangeError : Obligations.OverLimitAccessExitsWithRangeError := by
  intro s hd
  refine ⟨fun a rest hst => exec_mload_over hst hd, fun a b rest hst => ⟨exec_mstore_over hst hd, exec_mstore8_over hst hd, fun h0 hr => ?exits⟩,
    fun a b c rest hst h0 hr => ?copies⟩
  case exits =>
    exact ⟨exitWithBytes_over (reason := fun payload => .succeed (.returned payload)) hst hd h0 hr,
      exitWithBytes_over (reason := .revert) hst hd h0 hr⟩
  case copies =>
    exact ⟨copyToMemory_over (read := inputRead s) hst hd h0 hr, copyToMemory_over (read := codeRead s) hst hd h0 hr⟩

/-! ### The host's answer to a trap -/

theorem hostTrap_suspended {s : State} (h : s.hostAnswers = []) (op : Byte) : hostTrap op s = .fault (.awaitingHost op) := by
  rw [hostTrap, h]

theorem hostTrap_exit {s : State} {r : Reason} {more : List HostAnswer} (h : s.hostAnswers = .exit r :: more) (op : Byte) :
    hostTrap op s = .next { s with run := .exited r, hostAnswers := more } := by
  rw [hostTrap, h]

theorem hostTrap_resume {s : State} {stack : List Word} {mem : Memory} {memLen pc : Nat} {more : List HostAnswer}
    (h : s.hostAnswers = .resume stack mem memLen pc :: more) (op : Byte) :
    hostTrap op s = if resumeFits s.cfg stack mem memLen pc then
      .next { s with stack := stack, mem := mem, memLen := memLen, pc := pc, run := .running, hostAnswers := more }
      else .refused (.hostAnswerIllFormed op) := by
  rw [hostTrap, h]

/-- Settles O42: by the answer, a Resume by whether it fits. -/
theorem trapIsAnsweredByTheHost : Obligations.TrapIsAnsweredByTheHost := by
  intro s op hrun
  rw [step_trapped hrun]
  refine ⟨fun h => hostTrap_suspended h op, fun r more h => hostTrap_exit h op, fun stack mem memLen pc more h => ?_⟩
  rw [hostTrap_resume h, ← resumeFits_iff]
  exact ⟨fun hfit => if_pos hfit, fun hfit => if_neg hfit⟩

end Sys2Proof.Proofs.Exceptions
end
